-- ==== Sys2Proof/Word.lean ====
section
/-! DEFINITION. The words of the block: the widths of 00_scope.md R10 that more than one file uses. -/

namespace Sys2Proof

/-- u32, the width of every register as the host sees it (R19) and of the command word (R75). -/
abbrev Word := BitVec 32

/-- u16: the CRC register, frame addresses, lengths and the 16-bit measurement fields (R10, R16). -/
abbrev Half := BitVec 16

/-- A byte, 8 bits, 0 to 255 (R10). -/
abbrev Byte := BitVec 8

end Sys2Proof
end

