-- ==== Sys2Proof/Config.lean ====
section
/-! DEFINITION. What an implementation fixes (the receive-buffer capacity, 00_scope.md R8) and the one value
the spec leaves free (the unspecified bytes of RXBUF, 10_state.md R54). -/

namespace Sys2Proof.Config

/-- The least receive-buffer capacity an implementation may have (R8). -/
def minRxCapacity : Nat := 30

/-- The capacity of the one instance that `State.reset` describes. DESIGN CHOICE (log 3, unsafe for a claim that
rests on it): the spec leaves RX_CAPACITY open (D8); 256 is the value its own vectors use.
Every other definition takes the capacity from the state. -/
def rxCapacity : Nat := 256

/-- FREE VALUE (log 4): what byte `i` of RXBUF holds while nothing has been pushed there since reset. The spec leaves
it unspecified (R54, U3: "any value"), and no command that starts from a reachable state reads it. -/
opaque rxUnspecified : Nat → Byte

end Sys2Proof.Config
end

