-- ==== Sys2Proof/Syntax.lean ====
section
/-! DEFINITION. The commands of the block: the ten rows of spec/opcode_table.json (30_encoding.md R77).
A command has no operand field (R75, R76): every operand is taken from a register when CMD is written. -/

namespace Sys2Proof

/-- The ten commands, in the order of R77. -/
inductive Instr where
  /-- NOP, OP 0x00 (44_control.md R130). -/
  | nop
  /-- CRC_INIT, OP 0x01 (40_crc.md R94). -/
  | crcInit
  /-- CRC_BYTE, OP 0x02 (40_crc.md R95). -/
  | crcByte
  /-- CRC_RX, OP 0x03 (40_crc.md R96). -/
  | crcRx
  /-- RX_CLEAR, OP 0x10 (42_parser.md R102). -/
  | rxClear
  /-- RX_PUSH, OP 0x11 (42_parser.md R103). -/
  | rxPush
  /-- BUILD, OP 0x20 (41_serializer.md R99). -/
  | build
  /-- PARSE, OP 0x30 (42_parser.md R112). -/
  | parse
  /-- CLS_DI, OP 0x40 (43_classifier.md R121). -/
  | clsDi
  /-- CLS_HS, OP 0x41 (43_classifier.md R123). -/
  | clsHs
deriving DecidableEq, Repr

end Sys2Proof
end

