-- ==== Sys2Proof/WellFormed.lean ====
section
/-! DEFINITION. What a term must satisfy beyond its type. A command carries no field, so every command is
well-formed; the one parameter has a lower bound. The checks of host-script lines stand with that notation, in
Machine/Script.lean. -/

namespace Sys2Proof

/-- A command has no register, immediate or mode field (30_encoding.md R75), so nothing of it can be ill-formed. -/
def Instr.wf : Instr → Bool
  | .nop => true
  | .crcInit => true
  | .crcByte => true
  | .crcRx => true
  | .rxClear => true
  | .rxPush => true
  | .build => true
  | .parse => true
  | .clsDi => true
  | .clsHs => true

/-- RX_CAPACITY is any natural number of at least 30 (00_scope.md R8). -/
def wfCapacity (n : Nat) : Bool := decide (Config.minRxCapacity ≤ n)

end Sys2Proof
end

