-- ==== Sys2Proof/Decode.lean ====
section
/-! DEFINITION. The command word: the decoder (30_encoding.md R75, R77, R78), the encoder, and the host's view of
both. The decoder looks at bits [7:0] alone; decoding is total and rejects by name. -/

namespace Sys2Proof

/-- Why a word is no command. -/
inductive DecodeError where
  /-- OP is one of the 246 values that R78 calls illegal. The machine goes on: writing such a word sets
  STATUS.ILLEGAL (44_control.md R129; log 7). -/
  | illegalOpcode (op : Byte)
  /-- A command is one word (R79); `n` bytes are none. Only `decodeBytes` says so: the port moves whole words. -/
  | notOneWord (n : Nat)
deriving DecidableEq, Repr

/-- OP = v[7:0] (R75). -/
def opOf (v : Word) : Byte := v.extractLsb' 0 8

/-- The opcode map of R77, read from the opcode. -/
def decodeOp (op : Byte) : Except DecodeError Instr :=
  match op.toNat with
  | 0x00 => .ok .nop
  | 0x01 => .ok .crcInit
  | 0x02 => .ok .crcByte
  | 0x03 => .ok .crcRx
  | 0x10 => .ok .rxClear
  | 0x11 => .ok .rxPush
  | 0x20 => .ok .build
  | 0x30 => .ok .parse
  | 0x40 => .ok .clsDi
  | 0x41 => .ok .clsHs
  | _ => .error (.illegalOpcode op)

/-- A decoder selects the command from OP alone; bits [31:8] do not affect it (R75, R79). -/
def decode (v : Word) : Except DecodeError Instr := decodeOp (opOf v)

/-- A word as the four bytes a platform bus would show, bits [7:0] at offset +0 (20_memory.md R61). -/
def wordBytes (v : Word) : List Byte :=
  [v.extractLsb' 0 8, v.extractLsb' 8 8, v.extractLsb' 16 8, v.extractLsb' 24 8]

/-- The decoder on bytes: four of them, little-endian, are a command word (R61, R75). -/
def decodeBytes (bs : List Byte) : Except DecodeError Instr :=
  match bs with
  | [b0, b1, b2, b3] => decode (b3 ++ b2 ++ b1 ++ b0)
  | _ => .error (.notOneWord bs.length)

/-- The opcode map of R77, read from the mnemonic. -/
def Instr.opcode : Instr → Byte
  | .nop => 0x00
  | .crcInit => 0x01
  | .crcByte => 0x02
  | .crcRx => 0x03
  | .rxClear => 0x10
  | .rxPush => 0x11
  | .build => 0x20
  | .parse => 0x30
  | .clsDi => 0x40
  | .clsHs => 0x41

/-- The word a host writes for a command: `cmd MNEMONIC` writes OP with zeros above it (30_encoding.md R88; the
ignored bits may hold anything, R75; log 16). -/
def encode (i : Instr) : Word := i.opcode.setWidth 32

/-- A row of the opcode table as a command word: its bits, zeros above them. -/
def tableWord (nbits w : Nat) : Word := BitVec.ofNat 32 (w % 2 ^ nbits)

/-- The host's question about one opcode-table row: what this decoder reads from the word's bytes. -/
def decodeTableWord (nbits w : Nat) : Option Instr := (decodeBytes (wordBytes (tableWord nbits w))).toOption

end Sys2Proof
end

