-- ==== Sys2Proof/Machine/State.lean ====
section
/-! DEFINITION. The state of the block: the record of 10_state.md R16, the parameter RX_CAPACITY, and the host's
side of the port (the model's own two fields). Plain data throughout. -/

namespace Sys2Proof.Machine

/-- The host's two operations (20_memory.md R63). The offset is one of 0x000 to 0x0FF, so it is a byte (log 11). -/
inductive HostOp where
  /-- RegRead(off). -/
  | read (off : Byte)
  /-- RegWrite(off, v). -/
  | write (off : Byte) (v : Word)
deriving DecidableEq, Repr

/-- What can happen to the block from outside: a host operation, or the reset event that the platform may apply
between any two of them (70_reset_and_hazards.md R146; 44_control.md R127). -/
inductive Event where
  | host (op : HostOp)
  | reset
deriving DecidableEq, Repr

/-- The reasons the machine could stop with a fault: none. "The block has no trap mechanism" (60_exceptions.md R133),
and every host operation has an effect (44_control.md R127). Nothing raises it, so it is neither safe nor unsafe (log 6). -/
inductive Fault where
deriving DecidableEq, Repr

/-- The reasons the model could refuse an instruction. -/
inductive Refusal where
  /-- Raised by an arm of `exec` whose command has no meaning yet; safe. No arm raises it: all ten commands have
  their meaning. -/
  | notModelled (mnemonic : String)
deriving DecidableEq, Repr

/-- The receive buffer's store, as index and byte cells in one canonical form (see `Memory.wf`): the indexes rise
strictly. An index with no cell holds an unspecified byte (10_state.md R54; log 4), which is no value of a cell, so
two buffers with the same written bytes are the same data. -/
abbrev Memory := List Host.Cell

/-- The canonical form: strictly rising indexes. -/
abbrev Memory.wf (m : Memory) : Prop := m.Pairwise fun x y => x.1 < y.1

/-- The result registers that a successful PARSE writes together: response byte 4, the address, the sequence number and
the nine measurements as raw values (10_state.md R38 to R49). The 16-bit ones are two's-complement (R16). -/
@[ext]
structure Measurement where
  /-- RX_CMD (R38). -/
  rxCmd : Byte
  /-- RX_ADDR (R39). -/
  rxAddr : Half
  /-- SEQ (R40). -/
  seq : Byte
  /-- TEMP (R41). -/
  temp : Half
  /-- HUM (R42). -/
  hum : Half
  /-- LIGHT (R43). -/
  light : Half
  /-- PRESS (R44). -/
  press : Word
  /-- NOISE (R45). -/
  noise : Half
  /-- ETVOC (R46). -/
  etvoc : Half
  /-- ECO2 (R47). -/
  eco2 : Half
  /-- DI (R48). -/
  di : Half
  /-- HS (R49). -/
  hs : Half
deriving DecidableEq, Repr

/-- The result registers after reset: all zero (R146). -/
def Measurement.zero : Measurement where
  rxCmd := 0
  rxAddr := 0
  seq := 0
  temp := 0
  hum := 0
  light := 0
  press := 0
  noise := 0
  etvoc := 0
  eco2 := 0
  di := 0
  hs := 0

/-- The state of the block (R16), its parameter, and the host's side of the port. -/
@[ext]
structure State where
  /-- CTRL.STRICT_CRC (R29). -/
  ctrlStrict : Bool
  /-- DATA_IN (R30). -/
  dataIn : Byte
  /-- ADDR_IN (R31). -/
  addrIn : Half
  /-- CLS_IN (R32). -/
  clsIn : Half
  /-- CRC (R33). -/
  crc : Half
  /-- RX_CAPACITY, the parameter that RXCAP shows (00_scope.md R8, R52). No operation writes it (log 3). -/
  rxCapacity : Nat
  /-- RXBUF (R54). -/
  rxbuf : Memory
  /-- RXLEN (R34). -/
  rxlen : Nat
  /-- STATUS.RX_OVF (R28). -/
  rxOvf : Bool
  /-- TXB0 to TXB8 (R53). -/
  txbuf : Vector Byte 9
  /-- TXLEN (R35). -/
  txlen : BitVec 4
  /-- STATUS.TX_VALID (R26). -/
  txValid : Bool
  /-- STATUS.ERR (R23). -/
  err : BitVec 3
  /-- STATUS.PARSED (R24). -/
  parsed : Bool
  /-- STATUS.MEAS_VALID (R25). -/
  measValid : Bool
  /-- STATUS.ILLEGAL (R27). -/
  illegal : Bool
  /-- DIAG0 (R36). -/
  diag0 : Word
  /-- DIAG1 (R37). -/
  diag1 : Word
  /-- RX_CMD, RX_ADDR, SEQ and the nine measurement registers (R38 to R49). -/
  meas : Measurement
  /-- DI_CLASS (R50). -/
  diClass : BitVec 3
  /-- HS_CLASS (R51). -/
  hsClass : BitVec 3
  /-- The model's own: the events still to come, oldest first (log 1). -/
  pending : List Event
  /-- The model's own: the values RegRead has returned, oldest first (log 1). -/
  reads : List Word
deriving DecidableEq, Repr

/-- The block of capacity `cap` right after reset (R146), with a host that has done nothing and has nothing pending
(log 8). -/
def State.resetWith (cap : Nat) : State where
  ctrlStrict := false
  dataIn := 0x00
  addrIn := 0x0000
  clsIn := 0x0000
  crc := 0xFFFF
  rxCapacity := cap
  rxbuf := []
  rxlen := 0
  rxOvf := false
  txbuf := Vector.replicate 9 0x00
  txlen := 0
  txValid := false
  err := 0
  parsed := false
  measValid := false
  illegal := false
  diag0 := 0
  diag1 := 0
  meas := Measurement.zero
  diClass := 7
  hsClass := 7
  pending := []
  reads := []

/-- The machine right after reset, with the capacity of `Config.rxCapacity` (log 3). -/
def State.reset : State := State.resetWith Config.rxCapacity

end Sys2Proof.Machine
end

