-- ==== Sys2Proof/Machine/Ops.lean ====
section
/-! DEFINITION. The shared operations: byte sequences and their little-endian fields (00_scope.md R11), the receive
buffer's store, the CRC-16 function (40_crc.md R90, R91), the request frame (41_serializer.md R97), the updates of the
state, and `State.parseFail`, the one operation by which an error is taken (42_parser.md R113). -/

namespace Sys2Proof.Machine

/-! ### Byte sequences -/

/-- `d[i]` (R11). R11 gives it for `i` below the length; past the end it is 0 here, and every use is guarded by a
length check (log 10). -/
def byteAt (d : List Byte) (i : Nat) : Byte := d.getD i 0

/-- `LE16(d, i) = d[i] + 256 * d[i+1]` (R11, 20_memory.md R58). -/
def le16 (d : List Byte) (i : Nat) : Half := byteAt d (i + 1) ++ byteAt d i

/-- `LE32(d, i)` (R11, 20_memory.md R58). -/
def le32 (d : List Byte) (i : Nat) : Word := byteAt d (i + 3) ++ byteAt d (i + 2) ++ byteAt d (i + 1) ++ byteAt d i

/-- The low byte of a u16, the first on the wire (20_memory.md R58). -/
def loByte (h : Half) : Byte := h.extractLsb' 0 8

/-- The high byte of a u16, the second on the wire (20_memory.md R58). -/
def hiByte (h : Half) : Byte := h.extractLsb' 8 8

/-! ### The store of the receive buffer -/

/-- The byte in a cell; none where nothing has been pushed. -/
def Memory.read? : Memory → Nat → Option Byte
  | [], _ => none
  | (k, b) :: m, a => if a = k then some b else Memory.read? m a

/-- Store one byte, keeping the canonical form. -/
def Memory.write : Memory → Nat → Byte → Memory
  | [], a, v => [(a, v)]
  | (k, b) :: m, a, v =>
    if a < k then (a, v) :: (k, b) :: m
    else if a = k then (a, v) :: m
    else (k, b) :: Memory.write m a v

/-! ### The CRC-16 function -/

/-- The constant of R90, 0x8005 reflected (00_scope.md R3). -/
def crcPolynomial : Half := 0xA001

/-- The initial register (40_crc.md R91). -/
def crcStart : Half := 0xFFFF

/-- One of the eight iterations of R90: shift right with zero fill, then XOR the constant if the low bit was 1. -/
def crcShift (r : Half) : Half := if r.getLsbD 0 then (r >>> 1) ^^^ crcPolynomial else r >>> 1

/-- `n` iterations of R90. -/
def crcShifts : Nat → Half → Half
  | 0, r => r
  | n + 1, r => crcShifts n (crcShift r)

/-- `crc_update(r, b)` (R90): the byte enters bits [7:0], then exactly eight iterations. -/
def crcUpdate (r : Half) (b : Byte) : Half := crcShifts 8 (r ^^^ b.setWidth 16)

/-- `CRC16(s)` (R91): from 0xFFFF, each byte in order, no final XOR. -/
def crc16 (bs : List Byte) : Half := bs.foldl crcUpdate crcStart

/-! ### The request frame -/

/-- The first header byte of every frame (30_encoding.md R80). -/
def header0 : Byte := 0x52

/-- The second header byte of every frame (30_encoding.md R80). -/
def header1 : Byte := 0x42

/-- Steps 1 to 4 of R97: header, LEN 5, command 0x01, address. -/
def requestBody (a : Half) : List Byte := [header0, header1, 0x05, 0x00, 0x01, loByte a, hiByte a]

/-- Step 5 of R97: the checksum of the body exactly as emitted. -/
def requestCrc (a : Half) : Half := crc16 (requestBody a)

/-- `build_read_request(a)` (R97, 30_encoding.md R81): the body and its checksum, low byte first. -/
def buildRequest (a : Half) : Vector Byte 9 :=
  #v[header0, header1, 0x05, 0x00, 0x01, loByte a, hiByte a, loByte (requestCrc a), hiByte (requestCrc a)]

/-! ### Updates of the state -/

/-- Write the CRC register (10_state.md R33). -/
def State.setCrc (c : Half) (s : State) : State := { s with crc := c }

/-- Store one byte of RXBUF (10_state.md R54). -/
def State.storeRx (i : Nat) (b : Byte) (s : State) : State := { s with rxbuf := s.rxbuf.write i b }

/-- Write RXLEN (10_state.md R34). -/
def State.setRxlen (n : Nat) (s : State) : State := { s with rxlen := n }

/-- Write TXB0 to TXB8 whole, and TXLEN with them: a request frame is nine bytes (41_serializer.md R99). -/
def State.setTx (f : Vector Byte 9) (s : State) : State := { s with txbuf := f, txlen := 9 }

/-- Write the result registers RX_CMD to HS whole (42_parser.md R112). -/
def State.setMeas (m : Measurement) (s : State) : State := { s with meas := m }

/-- Write DI_CLASS (10_state.md R50). -/
def State.setDiClass (c : BitVec 3) (s : State) : State := { s with diClass := c }

/-- Write HS_CLASS (10_state.md R51). -/
def State.setHsClass (c : BitVec 3) (s : State) : State := { s with hsClass := c }

/-- Write CTRL.STRICT_CRC (44_control.md R131). -/
def State.setCtrl (b : Bool) (s : State) : State := { s with ctrlStrict := b }

/-- Write DATA_IN (44_control.md R131). -/
def State.setDataIn (b : Byte) (s : State) : State := { s with dataIn := b }

/-- Write ADDR_IN (44_control.md R131). -/
def State.setAddrIn (a : Half) (s : State) : State := { s with addrIn := a }

/-- Write CLS_IN (44_control.md R131). -/
def State.setClsIn (v : Half) (s : State) : State := { s with clsIn := v }

/-- The outcome registers of a PARSE: STATUS.ERR, DIAG0 and DIAG1, the diagnostics modulo 2^32 (42_parser.md R113). -/
def State.setOutcome (code : BitVec 3) (a b : Nat) (s : State) : State :=
  { s with err := code, diag0 := BitVec.ofNat 32 a, diag1 := BitVec.ofNat 32 b }

/-- Replace the events still to come. -/
def State.setPending (es : List Event) (s : State) : State := { s with pending := es }

/-- Hand one value to the host (the result of a RegRead, 44_control.md R127). -/
def State.answer (v : Word) (s : State) : State := { s with reads := s.reads ++ [v] }

/-- The reset event (70_reset_and_hazards.md R146): every piece of the block's state at its reset value, RX_CAPACITY kept.
The events to come and the values already returned are the host's and stay (log 9). -/
def State.applyReset (s : State) : State :=
  { State.resetWith s.rxCapacity with pending := s.pending, reads := s.reads }

/-! ### Taking an error -/

/-- The errors of a PARSE with the offending values each carries (10_state.md R23, 42_parser.md R114). -/
inductive ParseError where
  /-- ERR 1: the two bytes found. -/
  | malformedHeader (b0 b1 : Byte)
  /-- ERR 2: the LEN declared and the length the frame has. -/
  | lengthMismatch (declared actual : Nat)
  /-- ERR 3: the address received. -/
  | unknownAddress (received : Half)
  /-- ERR 4: the frame's length and the length required. -/
  | truncated (n required : Nat)
  /-- ERR 5: the checksum received and the checksum computed. -/
  | checksumMismatch (received computed : Half)
  /-- ERR 6: the bytes stored and the capacity. -/
  | overflow (n capacity : Nat)
deriving DecidableEq, Repr

/-- The one address a response may carry (42_parser.md R108). -/
def knownAddress : Half := 0x5022

/-- STATUS.ERR (10_state.md R23). -/
def ParseError.code : ParseError → BitVec 3
  | .malformedHeader _ _ => 1
  | .lengthMismatch _ _ => 2
  | .unknownAddress _ => 3
  | .truncated _ _ => 4
  | .checksumMismatch _ _ => 5
  | .overflow _ _ => 6

/-- DIAG0 (42_parser.md R114). -/
def ParseError.diag0 : ParseError → Nat
  | .malformedHeader b0 _ => b0.toNat
  | .lengthMismatch declared _ => declared
  | .unknownAddress received => received.toNat
  | .truncated n _ => n
  | .checksumMismatch received _ => received.toNat
  | .overflow n _ => n

/-- DIAG1 (42_parser.md R114). -/
def ParseError.diag1 : ParseError → Nat
  | .malformedHeader _ b1 => b1.toNat
  | .lengthMismatch _ actual => actual
  | .unknownAddress _ => knownAddress.toNat
  | .truncated _ required => required
  | .checksumMismatch _ computed => computed.toNat
  | .overflow _ capacity => capacity

/-- `fail(code, a, b)` (42_parser.md R113): the error and its diagnostics are recorded, and nothing else changes. It is
the block's whole way of taking an error: no state is saved and no control moves (60_exceptions.md R133). -/
def State.parseFail (e : ParseError) (s : State) : State := s.setOutcome e.code e.diag0 e.diag1

end Sys2Proof.Machine
end

