-- ==== Sys2Proof/Machine/Flags.lean ====
section
/-! DEFINITION. The STATUS register (10_state.md R22): its fields' updates and the word the host reads. -/

namespace Sys2Proof.Machine

/-- A legal command clears STATUS.ILLEGAL, its first effect (10_state.md R27, 44_control.md R128). -/
def State.markLegal (s : State) : State := { s with illegal := false }

/-- An illegal opcode sets STATUS.ILLEGAL (10_state.md R27, 44_control.md R129). -/
def State.markIllegal (s : State) : State := { s with illegal := true }

/-- STATUS.RX_OVF (10_state.md R28). -/
def State.setRxOvf (b : Bool) (s : State) : State := { s with rxOvf := b }

/-- STATUS.TX_VALID is set by every BUILD (10_state.md R26). -/
def State.markTxValid (s : State) : State := { s with txValid := true }

/-- STATUS.PARSED is set by every PARSE (10_state.md R24). -/
def State.markParsed (s : State) : State := { s with parsed := true }

/-- STATUS.MEAS_VALID is set by every successful PARSE (10_state.md R25). -/
def State.markMeasValid (s : State) : State := { s with measValid := true }

/-- STATUS as the host reads it (R22): RX_OVF 7, ILLEGAL 6, TX_VALID 5, MEAS_VALID 4, PARSED 3, ERR [2:0], and
the reserved bits [31:8] zero. -/
def State.statusWord (s : State) : Word :=
  (0 : BitVec 24) ++ BitVec.ofBool s.rxOvf ++ BitVec.ofBool s.illegal ++ BitVec.ofBool s.txValid ++
    BitVec.ofBool s.measValid ++ BitVec.ofBool s.parsed ++ s.err

end Sys2Proof.Machine
end

