-- ==== Sys2Proof/Machine/Operands.lean ====
section
/-! DEFINITION. Where a command takes its operands from (30_encoding.md R76), at the moment CMD is written. -/

namespace Sys2Proof.Machine

/-- DATA_IN[7:0], the operand of CRC_BYTE and RX_PUSH (10_state.md R30). -/
def State.dataByte (s : State) : Byte := s.dataIn

/-- ADDR_IN[15:0], the operand of BUILD (10_state.md R31). -/
def State.requestAddress (s : State) : Half := s.addrIn

/-- `as_s16(CLS_IN[15:0])`, the operand of CLS_DI and CLS_HS (10_state.md R32). -/
def State.clsValue (s : State) : Int := s.clsIn.toInt

/-- CTRL.STRICT_CRC, which PARSE reads (10_state.md R29). -/
def State.strict (s : State) : Bool := s.ctrlStrict

/-- RXBUF[i]: the byte stored there, or the unspecified byte (10_state.md R54; log 4). -/
def State.rxByte (s : State) (i : Nat) : Byte := (s.rxbuf.read? i).getD (Config.rxUnspecified i)

/-- RXBUF[0:RXLEN], in wire order: all that CRC_RX and PARSE see of the buffer (10_state.md R54). -/
def State.frame (s : State) : List Byte := (List.range s.rxlen).map s.rxByte

end Sys2Proof.Machine
end

