-- ==== Sys2Proof/Machine/Classifier.lean ====
section
/-! DEFINITION. The Classifier: the fixed-point classifiers the block runs (43_classifier.md R120, R122), the document's
classifiers on exact values (R117, R118), the labels (R125), and CLS_DI and CLS_HS (R121, R123). -/

namespace Sys2Proof.Machine

/-- The discomfort categories, in ascending order (R117, R120). -/
inductive DiCategory where
  | comfortable
  | notHot
  | somewhatHot
  | hotSweating
  | unbearablyHot
deriving DecidableEq, Repr

/-- The heat-stroke categories, in ascending order (R118, R122). -/
inductive HsCategory where
  | caution
  | warning
  | severeWarning
  | danger
deriving DecidableEq, Repr

/-- The code of a discomfort category (R120). -/
def DiCategory.code : DiCategory → BitVec 3
  | .comfortable => 0
  | .notHot => 1
  | .somewhatHot => 2
  | .hotSweating => 3
  | .unbearablyHot => 4

/-- The code of a heat-stroke category (R122). -/
def HsCategory.code : HsCategory → BitVec 3
  | .caution => 0
  | .warning => 1
  | .severeWarning => 2
  | .danger => 3

/-- `class_di(raw)`, raw in hundredths (R120). -/
def classDi (raw : Int) : DiCategory :=
  if raw < 7000 then .comfortable
  else if raw < 7500 then .notHot
  else if raw < 8000 then .somewhatHot
  else if raw < 8500 then .hotSweating
  else .unbearablyHot

/-- `class_hs(raw)`, raw in hundredths of a degree (R122). -/
def classHs (raw : Int) : HsCategory :=
  if raw < 2500 then .caution
  else if raw < 2800 then .warning
  else if raw < 3100 then .severeWarning
  else .danger

/-- `classify_DI(x)` on an exact value (R117; rationals, log 13). -/
def classifyDi (x : ℚ) : DiCategory :=
  if x < 70 then .comfortable
  else if x < 75 then .notHot
  else if x < 80 then .somewhatHot
  else if x < 85 then .hotSweating
  else .unbearablyHot

/-- `classify_HS(x)` on an exact value in °C (R118; rationals, log 13). -/
def classifyHs (x : ℚ) : HsCategory :=
  if x < 25 then .caution
  else if x < 28 then .warning
  else if x < 31 then .severeWarning
  else .danger

/-- The label of a discomfort code (R125); no label for a code that names no category. -/
def diLabel (code : BitVec 3) : Option String :=
  match code.toNat with
  | 0 => some "comfortable"
  | 1 => some "not hot"
  | 2 => some "somewhat hot"
  | 3 => some "hot, sweating"
  | 4 => some "unbearably hot"
  | _ => none

/-- The label of a heat-stroke code (R125); no label for a code that names no category. -/
def hsLabel (code : BitVec 3) : Option String :=
  match code.toNat with
  | 0 => some "caution"
  | 1 => some "warning"
  | 2 => some "severe warning"
  | 3 => some "danger"
  | _ => none

/-- CLS_DI (R121): classify CLS_IN as a discomfort index. -/
def execClsDi (s : State) : Host.Outcome State Fault Refusal :=
  .next (s.markLegal.setDiClass (classDi s.clsValue).code)

/-- CLS_HS (R123): classify CLS_IN as a heat-stroke index. -/
def execClsHs (s : State) : Host.Outcome State Fault Refusal :=
  .next (s.markLegal.setHsClass (classHs s.clsValue).code)

end Sys2Proof.Machine
end

