-- ==== Sys2Proof/Machine/Control.lean ====
section
/-! DEFINITION. The control family: NOP (44_control.md R130). -/

namespace Sys2Proof.Machine

/-- NOP (R130): marks the command legal, and nothing else. -/
def execNop (s : State) : Host.Outcome State Fault Refusal := .next s.markLegal

end Sys2Proof.Machine
end

