-- ==== Sys2Proof/Machine/Crc.lean ====
section
/-! DEFINITION. The CRC-16 Engine: CRC_INIT, CRC_BYTE, CRC_RX (40_crc.md R94 to R96). -/

namespace Sys2Proof.Machine

/-- CRC_INIT (R94): the engine's register takes its initial value. -/
def execCrcInit (s : State) : Host.Outcome State Fault Refusal := .next (s.markLegal.setCrc crcStart)

/-- CRC_BYTE (R95): the running register takes in DATA_IN's byte. -/
def execCrcByte (s : State) : Host.Outcome State Fault Refusal :=
  .next (s.markLegal.setCrc (crcUpdate s.crc s.dataByte))

/-- CRC_RX (R96): the checksum of the bytes in the receive buffer, from 0xFFFF whatever CRC held. -/
def execCrcRx (s : State) : Host.Outcome State Fault Refusal := .next (s.markLegal.setCrc (crc16 s.frame))

end Sys2Proof.Machine
end

