-- ==== Sys2Proof/Machine/Parser.lean ====
section
/-! DEFINITION. The Frame Parser: RX_CLEAR, RX_PUSH (42_parser.md R102, R103), the checks 0 to 5 (R105 to R110), the field
layout and its decode (30_encoding.md R84 to R86, 42_parser.md R111), and PARSE (R112). -/

namespace Sys2Proof.Machine

/-- RX_CLEAR (R102): RXLEN and RX_OVF become 0; the bytes stay where they are and become unobservable. -/
def execRxClear (s : State) : Host.Outcome State Fault Refusal :=
  .next ((s.markLegal.setRxlen 0).setRxOvf false)

/-- RX_PUSH (R103): store DATA_IN's byte behind the others, or, on a full buffer, drop it and set RX_OVF. -/
def execRxPush (s : State) : Host.Outcome State Fault Refusal :=
  if s.rxlen < s.rxCapacity then
    .next ((s.markLegal.storeRx s.rxlen s.dataByte).setRxlen (s.rxlen + 1))
  else
    .next (s.markLegal.setRxOvf true)

/-! ### The checks, in the order PARSE makes them -/

/-- Check 0, overflow (R105). -/
def checkOverflow (ovf : Bool) (cap : Nat) (d : List Byte) : Option ParseError :=
  if ovf then some (.overflow d.length cap) else none

/-- Check 1, header (R106). -/
def checkHeader (d : List Byte) : Option ParseError :=
  if d.length < 2 then some (.truncated d.length 2)
  else if byteAt d 0 ≠ header0 ∨ byteAt d 1 ≠ header1 then some (.malformedHeader (byteAt d 0) (byteAt d 1))
  else none

/-- Check 2, length (R107). -/
def checkLength (d : List Byte) : Option ParseError :=
  if d.length < 4 then some (.truncated d.length 4)
  else if (le16 d 2).toNat ≠ d.length - 4 then some (.lengthMismatch (le16 d 2).toNat (d.length - 4))
  else none

/-- Check 3, address; byte 4, the command, is not validated (R108). -/
def checkAddress (d : List Byte) : Option ParseError :=
  if d.length < 7 then some (.truncated d.length 7)
  else if le16 d 5 ≠ knownAddress then some (.unknownAddress (le16 d 5))
  else none

/-- The length a frame must have before its fields are decoded (R109). -/
def requiredLength (strict : Bool) : Nat := if strict then 30 else 28

/-- Check 4, truncation (R109). -/
def checkTruncation (strict : Bool) (d : List Byte) : Option ParseError :=
  if d.length < requiredLength strict then some (.truncated d.length (requiredLength strict)) else none

/-- Checks 0 to 4, the first failure ending them (R104). -/
def checkFrame (ovf : Bool) (cap : Nat) (strict : Bool) (d : List Byte) : Option ParseError :=
  (checkOverflow ovf cap d).or ((checkHeader d).or ((checkLength d).or ((checkAddress d).or (checkTruncation strict d))))

/-- The checksum computed over every byte before the last two (R110). -/
def computedCrc (d : List Byte) : Half := crc16 (d.take (d.length - 2))

/-- The checksum received: the last two bytes, little-endian (R110). -/
def receivedCrc (d : List Byte) : Half := le16 d (d.length - 2)

/-! ### The field layout -/

/-- The ten decoded fields of R84. -/
inductive Field where
  | sequenceNumber
  | temperature
  | humidity
  | ambientLight
  | pressure
  | noise
  | etvoc
  | eco2
  | discomfortIndex
  | heatStrokeIndex
deriving DecidableEq, Repr

/-- Every field, in frame order (R84). -/
def Field.all : List Field :=
  [.sequenceNumber, .temperature, .humidity, .ambientLight, .pressure, .noise, .etvoc, .eco2, .discomfortIndex, .heatStrokeIndex]

/-- The byte offset of a field in the frame (R84). -/
def Field.offset : Field → Nat
  | .sequenceNumber => 7
  | .temperature => 8
  | .humidity => 10
  | .ambientLight => 12
  | .pressure => 14
  | .noise => 18
  | .etvoc => 20
  | .eco2 => 22
  | .discomfortIndex => 24
  | .heatStrokeIndex => 26

/-- The width of a field in bytes (R84). -/
def Field.width : Field → Nat
  | .sequenceNumber => 1
  | .pressure => 4
  | _ => 2

/-- The scale of a field: its physical value is its raw value divided by it (R84, R86). -/
def Field.scale : Field → Nat
  | .sequenceNumber => 1
  | .temperature => 100
  | .humidity => 100
  | .ambientLight => 1
  | .pressure => 1000
  | .noise => 100
  | .etvoc => 1
  | .eco2 => 1
  | .discomfortIndex => 100
  | .heatStrokeIndex => 100

/-- The unit of a field's physical value (R84); the sequence number has none. -/
def Field.unit : Field → Option String
  | .sequenceNumber => none
  | .temperature => some "°C"
  | .humidity => some "%RH"
  | .ambientLight => some "lux"
  | .pressure => some "hPa"
  | .noise => some "dB"
  | .etvoc => some "ppb"
  | .eco2 => some "ppm"
  | .discomfortIndex => some "dimensionless"
  | .heatStrokeIndex => some "°C"

/-- The raw value a result register holds for a field (30_encoding.md R85; 10_state.md R40 to R49). -/
def Measurement.raw (m : Measurement) : Field → Int
  | .sequenceNumber => m.seq.toNat
  | .temperature => m.temp.toInt
  | .humidity => m.hum.toInt
  | .ambientLight => m.light.toInt
  | .pressure => m.press.toInt
  | .noise => m.noise.toInt
  | .etvoc => m.etvoc.toInt
  | .eco2 => m.eco2.toInt
  | .discomfortIndex => m.di.toInt
  | .heatStrokeIndex => m.hs.toInt

/-- The physical value of a field, an exact rational (R86, 00_scope.md R12). The block returns raw values only; this
division is the reader's. -/
def Measurement.physical (m : Measurement) (f : Field) : ℚ := (m.raw f : ℚ) / (f.scale : ℚ)

/-- The field decode of R111, with RX_CMD and RX_ADDR (R112). -/
def decodeFields (d : List Byte) : Measurement where
  rxCmd := byteAt d 4
  rxAddr := le16 d 5
  seq := byteAt d 7
  temp := le16 d 8
  hum := le16 d 10
  light := le16 d 12
  press := le32 d 14
  noise := le16 d 18
  etvoc := le16 d 20
  eco2 := le16 d 22
  di := le16 d 24
  hs := le16 d 26

/-! ### PARSE -/

/-- The success branch of R112: the fields, both classifications (R124), ERR and the diagnostics 0, MEAS_VALID set. -/
def State.parseAccept (d : List Byte) (s : State) : State :=
  ((((s.setMeas (decodeFields d)).setDiClass (classDi (le16 d 24).toInt).code).setHsClass
    (classHs (le16 d 26).toInt).code).setOutcome 0 0 0).markMeasValid

/-- Check 5 and what follows it (R110, R112): in strict mode CRC takes the computed checksum, and a different received
one fails; in lenient mode neither happens. -/
def State.parseChecked (strict : Bool) (d : List Byte) (s : State) : State :=
  if strict then
    if receivedCrc d ≠ computedCrc d then
      (s.setCrc (computedCrc d)).parseFail (.checksumMismatch (receivedCrc d) (computedCrc d))
    else (s.setCrc (computedCrc d)).parseAccept d
  else s.parseAccept d

/-- The state a PARSE leaves (R112): ILLEGAL cleared and PARSED set, then the first failing check's error, or what
follows the checks. -/
def parseState (s : State) : State :=
  match checkFrame s.rxOvf s.rxCapacity s.strict s.frame with
  | some e => s.markLegal.markParsed.parseFail e
  | none => s.markLegal.markParsed.parseChecked s.strict s.frame

/-- PARSE (R112). It ends in a next state whatever the frame: its errors are values (60_exceptions.md R133). -/
def execParse (s : State) : Host.Outcome State Fault Refusal := .next (parseState s)

end Sys2Proof.Machine
end

