-- ==== Sys2Proof/Machine/Serializer.lean ====
section
/-! DEFINITION. The Frame Serializer: BUILD (41_serializer.md R99). -/

namespace Sys2Proof.Machine

/-- BUILD (R99): the request for ADDR_IN into TXB0 to TXB8, its checksum into CRC. -/
def execBuild (s : State) : Host.Outcome State Fault Refusal :=
  .next (((s.markLegal.setTx (buildRequest s.requestAddress)).markTxValid).setCrc (requestCrc s.requestAddress))

end Sys2Proof.Machine
end

