-- ==== Sys2Proof/Machine/Dispatch.lean ====
section
/-! DEFINITION. The meaning of every command (44_control.md R128): one arm per constructor of Instr. -/

namespace Sys2Proof.Machine

def exec (i : Instr) (s : State) : Host.Outcome State Fault Refusal :=
  match i with
  | .nop => Sys2Proof.Machine.execNop s
  | .crcInit => Sys2Proof.Machine.execCrcInit s
  | .crcByte => Sys2Proof.Machine.execCrcByte s
  | .crcRx => Sys2Proof.Machine.execCrcRx s
  | .rxClear => Sys2Proof.Machine.execRxClear s
  | .rxPush => Sys2Proof.Machine.execRxPush s
  | .build => Sys2Proof.Machine.execBuild s
  | .parse => Sys2Proof.Machine.execParse s
  | .clsDi => Sys2Proof.Machine.execClsDi s
  | .clsHs => Sys2Proof.Machine.execClsHs s

end Sys2Proof.Machine
end

