-- ==== Sys2Proof/Machine/RegMap.lean ====
section
/-! DEFINITION. The register window (10_state.md R20): names, offsets, access, defined bits, and the reads and writes
that go through it (44_control.md R131, R132). -/

namespace Sys2Proof.Machine

/-- The registers of R20, in the order of their offsets. -/
inductive RegName where
  | cmd | status | ctrl | dataIn | addrIn | clsIn
  | crc | rxlen | txlen | diag0 | diag1
  | rxCmd | rxAddr | seq
  | temp | hum | light | press | noise | etvoc | eco2 | di | hs
  | diClass | hsClass | rxcap
  | txb0 | txb1 | txb2 | txb3 | txb4 | txb5 | txb6 | txb7 | txb8
deriving DecidableEq, Repr

/-- Access by the host (R20). -/
inductive Access where
  | rw
  | ro
  | wo
deriving DecidableEq, Repr

/-- The byte offset of a register (R20). -/
def RegName.offset : RegName → Byte
  | .cmd => 0x00
  | .status => 0x04
  | .ctrl => 0x08
  | .dataIn => 0x0C
  | .addrIn => 0x10
  | .clsIn => 0x14
  | .crc => 0x18
  | .rxlen => 0x1C
  | .txlen => 0x20
  | .diag0 => 0x24
  | .diag1 => 0x28
  | .rxCmd => 0x2C
  | .rxAddr => 0x30
  | .seq => 0x34
  | .temp => 0x38
  | .hum => 0x3C
  | .light => 0x40
  | .press => 0x44
  | .noise => 0x48
  | .etvoc => 0x4C
  | .eco2 => 0x50
  | .di => 0x54
  | .hs => 0x58
  | .diClass => 0x5C
  | .hsClass => 0x60
  | .rxcap => 0x64
  | .txb0 => 0x80
  | .txb1 => 0x84
  | .txb2 => 0x88
  | .txb3 => 0x8C
  | .txb4 => 0x90
  | .txb5 => 0x94
  | .txb6 => 0x98
  | .txb7 => 0x9C
  | .txb8 => 0xA0

/-- What the host may do with a register (R20). -/
def RegName.access : RegName → Access
  | .cmd => .wo
  | .ctrl => .rw
  | .dataIn => .rw
  | .addrIn => .rw
  | .clsIn => .rw
  | _ => .ro

/-- The bits a register defines (R20); the others are reserved (R19). -/
def RegName.definedBits : RegName → Word
  | .cmd => 0xFF
  | .status => 0xFF
  | .ctrl => 0x1
  | .dataIn => 0xFF
  | .addrIn => 0xFFFF
  | .clsIn => 0xFFFF
  | .crc => 0xFFFF
  | .txlen => 0xF
  | .rxCmd => 0xFF
  | .rxAddr => 0xFFFF
  | .seq => 0xFF
  | .diClass => 0x7
  | .hsClass => 0x7
  | .txb0 | .txb1 | .txb2 | .txb3 | .txb4 | .txb5 | .txb6 | .txb7 | .txb8 => 0xFF
  | _ => 0xFFFFFFFF

/-- The registers of the control, operand and result part of R20. -/
def RegName.front : List RegName :=
  [.cmd, .status, .ctrl, .dataIn, .addrIn, .clsIn, .crc, .rxlen, .txlen, .diag0, .diag1]

/-- The registers a successful PARSE or a classification writes, and RXCAP (R20). -/
def RegName.results : List RegName :=
  [.rxCmd, .rxAddr, .seq, .temp, .hum, .light, .press, .noise, .etvoc, .eco2, .di, .hs, .diClass, .hsClass, .rxcap]

/-- The nine bytes of the request frame (R20, R53). -/
def RegName.txbytes : List RegName := [.txb0, .txb1, .txb2, .txb3, .txb4, .txb5, .txb6, .txb7, .txb8]

/-- Every register of R20, in the order of the offsets. -/
def RegName.all : List RegName := RegName.front ++ RegName.results ++ RegName.txbytes

/-- The register an offset names, if it names one: a misaligned offset names none, nor does an unmapped one
(20_memory.md R64, R65). -/
def regAt (off : Byte) : Option RegName :=
  if off.toNat % 4 ≠ 0 then none else RegName.all.find? fun r => r.offset == off

/-- A register as the host reads it (44_control.md R132): fields in place, reserved bits 0, the 16-bit measurements
sign-extended, everything else zero-extended, CMD 0. -/
def readReg (s : State) : RegName → Word
  | .cmd => 0
  | .status => s.statusWord
  | .ctrl => (BitVec.ofBool s.ctrlStrict).setWidth 32
  | .dataIn => s.dataIn.setWidth 32
  | .addrIn => s.addrIn.setWidth 32
  | .clsIn => s.clsIn.setWidth 32
  | .crc => s.crc.setWidth 32
  | .rxlen => BitVec.ofNat 32 s.rxlen
  | .txlen => s.txlen.setWidth 32
  | .diag0 => s.diag0
  | .diag1 => s.diag1
  | .rxCmd => s.meas.rxCmd.setWidth 32
  | .rxAddr => s.meas.rxAddr.setWidth 32
  | .seq => s.meas.seq.setWidth 32
  | .temp => s.meas.temp.signExtend 32
  | .hum => s.meas.hum.signExtend 32
  | .light => s.meas.light.signExtend 32
  | .press => s.meas.press
  | .noise => s.meas.noise.signExtend 32
  | .etvoc => s.meas.etvoc.signExtend 32
  | .eco2 => s.meas.eco2.signExtend 32
  | .di => s.meas.di.signExtend 32
  | .hs => s.meas.hs.signExtend 32
  | .diClass => s.diClass.setWidth 32
  | .hsClass => s.hsClass.setWidth 32
  | .rxcap => BitVec.ofNat 32 s.rxCapacity
  | .txb0 => s.txbuf[0].setWidth 32
  | .txb1 => s.txbuf[1].setWidth 32
  | .txb2 => s.txbuf[2].setWidth 32
  | .txb3 => s.txbuf[3].setWidth 32
  | .txb4 => s.txbuf[4].setWidth 32
  | .txb5 => s.txbuf[5].setWidth 32
  | .txb6 => s.txbuf[6].setWidth 32
  | .txb7 => s.txbuf[7].setWidth 32
  | .txb8 => s.txbuf[8].setWidth 32

/-- `read_value(s, off)` (R132): an unmapped or misaligned offset reads 0. -/
def readValue (s : State) (off : Byte) : Word :=
  match regAt off with
  | none => 0
  | some r => readReg s r

/-- `write_operand(s, off, v)` (44_control.md R131): the four RW registers store their defined bits. A write to any
other register stores nothing here (10_state.md R19; CMD runs a command instead, in Machine/Port.lean). -/
def writeOperand (r : RegName) (v : Word) (s : State) : State :=
  match r with
  | .ctrl => s.setCtrl (v.getLsbD 0)
  | .dataIn => s.setDataIn (v.extractLsb' 0 8)
  | .addrIn => s.setAddrIn (v.extractLsb' 0 16)
  | .clsIn => s.setClsIn (v.extractLsb' 0 16)
  | _ => s

end Sys2Proof.Machine
end

