-- ==== Sys2Proof/Machine/Port.lean ====
section
/-! DEFINITION. The host port: what one host operation does (44_control.md R127, R128, R129), and the reset event. -/

namespace Sys2Proof.Machine

/-- `dispatch` (R128): a legal opcode runs its command as one atomic step; an illegal one sets STATUS.ILLEGAL and
changes nothing else (R129). -/
def dispatch (v : Word) (s : State) : Host.Outcome State Fault Refusal :=
  match decode v with
  | .ok i => exec i s
  | .error _ => .next s.markIllegal

/-- `RegWrite(off, v)` (R127): misaligned or unmapped, nothing; CMD, the command; an RW register, its defined bits; a
read-only register, nothing. -/
def regWrite (off : Byte) (v : Word) (s : State) : Host.Outcome State Fault Refusal :=
  match regAt off with
  | none => .next s
  | some .cmd => dispatch v s
  | some r =>
    match r.access with
    | .rw => .next (writeOperand r v s)
    | _ => .next s

/-- `RegRead(off)` (R127, R132): the value goes to the host, and no state of the block changes. -/
def regRead (off : Byte) (s : State) : State := s.answer (readValue s off)

/-- One event, complete with every effect it causes (20_memory.md R63). -/
def serve (e : Event) (s : State) : Host.Outcome State Fault Refusal :=
  match e with
  | .host (.read off) => .next (regRead off s)
  | .host (.write off v) => regWrite off v s
  | .reset => .next s.applyReset

/-- The next event to come, served; with none, nothing happens (10_state.md R15, 60_exceptions.md R145; log 2). -/
def serveNext (s : State) : Host.Outcome State Fault Refusal :=
  match s.pending with
  | [] => .next s
  | e :: rest => serve e (s.setPending rest)

/-- The command word `v` as the very next event: a host write to CMD (30_encoding.md R75). -/
def State.issue (v : Word) (s : State) : State := s.setPending (.host (.write RegName.cmd.offset v) :: s.pending)

end Sys2Proof.Machine
end

