-- ==== Sys2Proof/Machine/Step.lean ====
section
/-! DEFINITION. One step of the machine: the next event to come, whole (44_control.md R127; 20_memory.md R63). -/

namespace Sys2Proof.Machine

/-- One step: see `serveNext`. -/
def step (s : State) : Host.Outcome State Fault Refusal := serveNext s

/-- `s` with the command word put where the next step takes it: a host write of it to CMD, before everything pending
(log 8). -/
def State.withFetchWord (s : State) (nbits w : Nat) : State := s.issue (tableWord nbits w)

end Sys2Proof.Machine
end

