-- ==== Sys2Proof/Machine/Script.lean ====
section
/-! DEFINITION. The host-script notation (30_encoding.md R88, R89): statements, pseudo-statements, their check, and the
host operations they stand for. A host script is the block's program; it is loaded as the events to come (log 8). -/

namespace Sys2Proof.Machine

/-- What a statement names: a register of R20, or a raw offset as the spec's own program P4 writes it (log 14). -/
inductive Target where
  | reg (r : RegName)
  | offset (n : Nat)
deriving DecidableEq, Repr

/-- The statements of R88. Numbers are as written; `Stmt.wf` bounds them. -/
inductive Stmt where
  /-- `wr REG, v`. -/
  | wr (t : Target) (v : Nat)
  /-- `rd REG`. -/
  | rd (t : Target)
  /-- `cmd MNEMONIC`. -/
  | cmd (i : Instr)
  /-- `cmd 0xNN`, any byte, legal or not. -/
  | cmdByte (n : Nat)
  /-- `expect REG, v`. -/
  | expect (r : RegName) (v : Nat)
deriving DecidableEq, Repr

/-- A line of a script: a statement, or a pseudo-statement of R89. -/
inductive Line where
  | stmt (x : Stmt)
  | loadRx (bs : List Nat)
  | crcBytes (bs : List Nat)
  | build (a : Nat)
  | parseLenient
  | parseStrict
  | classifyDi (v : Int)
  | classifyHs (v : Int)
deriving DecidableEq, Repr

/-- An offset lies in the window (20_memory.md R63). -/
def Target.wf : Target → Bool
  | .reg _ => true
  | .offset n => decide (n < 0x100)

/-- A written value is a u32 (20_memory.md R63), an opcode a byte (R88). -/
def Stmt.wf : Stmt → Bool
  | .wr t v => t.wf && decide (v < 2 ^ 32)
  | .rd t => t.wf
  | .cmd i => i.wf
  | .cmdByte n => decide (n < 0x100)
  | .expect _ v => decide (v < 2 ^ 32)

/-- The offset a target names. -/
def Target.off : Target → Byte
  | .reg r => r.offset
  | .offset n => BitVec.ofNat 8 n

/-- The bus operation of a statement (R88). -/
def Stmt.op : Stmt → HostOp
  | .wr t v => .write t.off (BitVec.ofNat 32 v)
  | .rd t => .read t.off
  | .cmd i => .write RegName.cmd.offset (encode i)
  | .cmdByte n => .write RegName.cmd.offset (BitVec.ofNat 32 n)
  | .expect r _ => .read r.offset

/-- What a statement says of the value it reads: nothing, unless it is an `expect` (R88). -/
def Stmt.expected : Stmt → Option Word
  | .expect _ v => some (BitVec.ofNat 32 v)
  | _ => none

/-- One write of an operand register and the command that reads it, once per byte (R89). -/
def perByte (i : Instr) (bs : List Nat) : List Stmt :=
  bs.flatMap fun b => [.wr (.reg .dataIn) b, .cmd i]

/-- The expansion of a line (R89). `v & 0xFFFF` of a negative number is its low 16 bits in two's complement. -/
def Line.expand : Line → List Stmt
  | .stmt x => [x]
  | .loadRx bs => .cmd .rxClear :: perByte .rxPush bs
  | .crcBytes bs => .cmd .crcInit :: perByte .crcByte bs
  | .build a => [.wr (.reg .addrIn) a, .cmd .build]
  | .parseLenient => [.wr (.reg .ctrl) 0, .cmd .parse]
  | .parseStrict => [.wr (.reg .ctrl) 1, .cmd .parse]
  | .classifyDi v => [.wr (.reg .clsIn) (BitVec.ofInt 16 v).toNat, .cmd .clsDi]
  | .classifyHs v => [.wr (.reg .clsIn) (BitVec.ofInt 16 v).toNat, .cmd .clsHs]

/-- A line is well-formed: a byte list holds bytes, and every statement it stands for is well-formed. -/
def Line.wf (l : Line) : Bool :=
  (match l with
  | .loadRx bs => bs.all fun b => decide (b < 0x100)
  | .crcBytes bs => bs.all fun b => decide (b < 0x100)
  | .build a => decide (a < 0x10000)
  | _ => true) && l.expand.all Stmt.wf

/-- The statements of a script. -/
def expandScript (ls : List Line) : List Stmt := ls.flatMap Line.expand

/-- The events of a script, in the host's order (20_memory.md R69). -/
def scriptEvents (ls : List Line) : List Event := (expandScript ls).map fun x => .host x.op

/-- Load a script behind what is already pending. -/
def State.loadScript (ls : List Line) (s : State) : State := s.setPending (s.pending ++ scriptEvents ls)

/-- What a statement says of its read, if it is a read (R88). -/
def Stmt.readExpectation : Stmt → Option (Option Word)
  | .rd _ => some none
  | .expect r v => some (Stmt.expect r v).expected
  | _ => none

/-- A script's assertions hold of the values its reads returned (R88: an assertion, no bus effect beyond the read; log 15). -/
def expectationsMet (ls : List Line) (values : List Word) : Bool :=
  let exps := (expandScript ls).filterMap Stmt.readExpectation
  decide (exps.length = values.length) && (exps.zip values).all fun x => x.1.all (· == x.2)

end Sys2Proof.Machine
end

