-- ==== Sys2Proof/Safety.lean ====
section
/-! DEFINITION. What the spec promises of every state the block can be in (10_state.md, 42_parser.md), as one invariant of
named parts, and what a step that does not stop is. -/

namespace Sys2Proof.Machine

/-- A step that stops nowhere: it answers a next state (60_exceptions.md R133). -/
def GoesOn (o : Host.Outcome State Fault Refusal) : Prop := ∃ t, o = .next t

/-- The legal codes of DI_CLASS: a category or NONE (10_state.md R50). -/
def legalDiCode (c : BitVec 3) : Bool := c == 7 || c.toNat < 5

/-- The legal codes of HS_CLASS: a category or NONE (10_state.md R51). -/
def legalHsCode (c : BitVec 3) : Bool := c == 7 || c.toNat < 4

/-- What holds of the block in every state it can be in. -/
structure Inv (s : State) : Prop where
  /-- RX_CAPACITY is admissible (00_scope.md R8). -/
  capacity : wfCapacity s.rxCapacity = true
  /-- RXLEN never exceeds RX_CAPACITY (10_state.md R34). -/
  rxlen_le : s.rxlen ≤ s.rxCapacity
  /-- RXBUF is in canonical form. -/
  rxbuf_wf : s.rxbuf.wf
  /-- RXBUF has RX_CAPACITY bytes (10_state.md R16). -/
  rxbuf_inside : ∀ c ∈ s.rxbuf, c.1 < s.rxCapacity
  /-- Every byte below RXLEN has been pushed (10_state.md R54): no command reads an unspecified one. -/
  rxbuf_pushed : ∀ i < s.rxlen, (s.rxbuf.read? i).isSome = true
  /-- RX_OVF is set only while the buffer is full (10_state.md R28). -/
  ovf_full : s.rxOvf = true → s.rxlen = s.rxCapacity
  /-- TXLEN is 0 before the first BUILD and 9 after it (10_state.md R35). -/
  txlen_legal : s.txlen = if s.txValid then 9 else 0
  /-- With TX_VALID, TXB0 to TXB8 hold a built request frame (10_state.md R22, R53). -/
  tx_built : s.txValid = true → ∃ a, s.txbuf = buildRequest a
  /-- Before the first BUILD they hold zero (10_state.md R53). -/
  tx_zero : s.txValid = false → s.txbuf = Vector.replicate 9 0
  /-- ERR 7 is never written (10_state.md R23). -/
  err_legal : s.err ≠ 7
  /-- No outcome is reported before the first PARSE (10_state.md R23, R24). -/
  unparsed : s.parsed = false → s.err = 0 ∧ s.diag0 = 0 ∧ s.diag1 = 0 ∧ s.measValid = false
  /-- ERR 0 after a PARSE means that it succeeded: both diagnostics are 0 and the results are valid (10_state.md R23,
  R36, R37). -/
  accepted : s.parsed = true → s.err = 0 → s.diag0 = 0 ∧ s.diag1 = 0 ∧ s.measValid = true
  /-- With MEAS_VALID the address register holds the one known address (10_state.md R39). -/
  meas_address : s.measValid = true → s.meas.rxAddr = knownAddress
  /-- Without it the result registers hold zero (10_state.md R25, R146). -/
  meas_zero : s.measValid = false → s.meas = Measurement.zero
  /-- DI_CLASS 5 and 6 are never written (10_state.md R50). -/
  di_legal : legalDiCode s.diClass = true
  /-- HS_CLASS 4, 5 and 6 are never written (10_state.md R51). -/
  hs_legal : legalHsCode s.hsClass = true
  /-- A decoded frame has been classified (43_classifier.md R124). -/
  meas_classified : s.measValid = true → s.diClass ≠ 7 ∧ s.hsClass ≠ 7

end Sys2Proof.Machine
end

