-- ==== Sys2Proof/Certificates/Slice0/Obligations.lean ====
section
/-! DEFINITION. The statements for the provers. First what they say in the spec's own terms, in arithmetic on natural
numbers and tables transcribed from the rules, independent of the model's functions; then the statements. -/

namespace Sys2Proof.Claims

open Sys2Proof.Machine

/-! ### The spec's arithmetic (00_scope.md R11) -/

/-- `d[i]` as a number. -/
def u8At (d : List Byte) (i : Nat) : Nat := (d.getD i 0).toNat

/-- `LE16(d, i)` as a number (R11). -/
def u16At (d : List Byte) (i : Nat) : Nat := u8At d i + 256 * u8At d (i + 1)

/-- `LE32(d, i)` as a number (R11). -/
def u32At (d : List Byte) (i : Nat) : Nat :=
  u8At d i + 2 ^ 8 * u8At d (i + 1) + 2 ^ 16 * u8At d (i + 2) + 2 ^ 24 * u8At d (i + 3)

/-- `as_s16` (R11). -/
def asS16 (n : Nat) : Int := if 32768 ≤ n then (n : Int) - 65536 else n

/-- `as_s32` (R11). -/
def asS32 (n : Nat) : Int := if 2 ^ 31 ≤ n then (n : Int) - 2 ^ 32 else n

/-- The less significant byte of a u16, first on the wire (20_memory.md R58). -/
def lo (h : Half) : Byte := h.extractLsb' 0 8

/-- The more significant byte of a u16, second on the wire (20_memory.md R58). -/
def hi (h : Half) : Byte := h.extractLsb' 8 8

/-- A u16 as two bytes, low byte first (20_memory.md R58). -/
def bytes16 (h : Half) : List Byte := [lo h, hi h]

/-! ### The opcode map (30_encoding.md R77, R78) -/

/-- R77. -/
def opcodeMap : List (Nat × Instr) :=
  [(0x00, .nop), (0x01, .crcInit), (0x02, .crcByte), (0x03, .crcRx), (0x10, .rxClear), (0x11, .rxPush), (0x20, .build),
    (0x30, .parse), (0x40, .clsDi), (0x41, .clsHs)]

/-- The ranges R78 calls illegal. -/
def illegalOp (op : Nat) : Bool :=
  (0x04 ≤ op && op ≤ 0x0F) || (0x12 ≤ op && op ≤ 0x1F) || (0x21 ≤ op && op ≤ 0x2F) || (0x31 ≤ op && op ≤ 0x3F) ||
    (0x42 ≤ op && op ≤ 0xFF)

/-! ### The checksum in arithmetic (40_crc.md R90) -/

/-- One iteration of R90 on a number. -/
def crcShiftNat (r : Nat) : Nat := if r % 2 = 1 then (r / 2) ^^^ 0xA001 else r / 2

/-- `crc_update` of R90 on numbers: exactly eight iterations. -/
def crcUpdateNat (r b : Nat) : Nat :=
  crcShiftNat (crcShiftNat (crcShiftNat (crcShiftNat (crcShiftNat (crcShiftNat (crcShiftNat (crcShiftNat (r ^^^ b))))))))

/-! ### The parser's outcome (42_parser.md R105 to R110, R112, R114, 60_exceptions.md R136) -/

/-- The last two bytes are not the checksum of the bytes before them. -/
def badChecksum (d : List Byte) : Bool := u16At d (d.length - 2) != (crc16 (d.take (d.length - 2))).toNat

/-- ERR, DIAG0 and DIAG1 of a PARSE, in the order of R136. -/
def outcome (ovf strict : Bool) (cap : Nat) (d : List Byte) : Nat × Nat × Nat :=
  let n := d.length
  if ovf then (6, n, cap)
  else if n < 2 then (4, n, 2)
  else if u8At d 0 ≠ 0x52 ∨ u8At d 1 ≠ 0x42 then (1, u8At d 0, u8At d 1)
  else if n < 4 then (4, n, 4)
  else if u16At d 2 ≠ n - 4 then (2, u16At d 2, n - 4)
  else if n < 7 then (4, n, 7)
  else if u16At d 5 ≠ 0x5022 then (3, u16At d 5, 0x5022)
  else if n < (if strict then 30 else 28) then (4, n, if strict then 30 else 28)
  else if strict && badChecksum d then (5, u16At d (n - 2), (crc16 (d.take (n - 2))).toNat)
  else (0, 0, 0)

/-- The outcome of a PARSE in a state. -/
def outcomeOf (s : State) : Nat × Nat × Nat := outcome s.rxOvf s.ctrlStrict s.rxCapacity s.frame

/-- The code with which the document's reference decoder ends, read from R104 to R111 without the guards the spec adds:
header, LEN and address in that order, then the fields, each step reading the bytes it needs; none where it would read
beyond the frame (R116; log 18). -/
def referenceCode (d : List Byte) : Option Nat :=
  match d[0]?, d[1]? with
  | some b0, some b1 =>
    if b0 ≠ 0x52 ∨ b1 ≠ 0x42 then some 1
    else match d[2]?, d[3]? with
      | some l0, some l1 =>
        if l0.toNat + 256 * l1.toNat + 4 ≠ d.length then some 2
        else match d[5]?, d[6]? with
          | some a0, some a1 => if a0 ≠ 0x22 ∨ a1 ≠ 0x50 then some 3 else d[27]?.map fun _ => 0
          | _, _ => none
      | _, _ => none
  | _, _ => none

/-- A PARSE reaches its checksum step: strict mode, and its outcome is success or a checksum mismatch (R110). -/
def checksumReached (s : State) : Bool := s.ctrlStrict && ((outcomeOf s).1 == 0 || (outcomeOf s).1 == 5)

/-- CRC after a PARSE (R110, R112). -/
def crcAfterParse (s : State) : Half :=
  if checksumReached s then crc16 (s.frame.take (s.frame.length - 2)) else s.crc

/-! ### Frames and their fields (30_encoding.md R84) -/

/-- The first 28 bytes of the response frame that carries `m`, with the LEN given: header, LEN, command, address,
sequence number, then the nine measurements, each low byte first (R84). -/
def responseHead (m : Measurement) (len : Nat) : List Byte :=
  [0x52, 0x42, lo (BitVec.ofNat 16 len), hi (BitVec.ofNat 16 len), m.rxCmd, lo m.rxAddr, hi m.rxAddr, m.seq,
    lo m.temp, hi m.temp, lo m.hum, hi m.hum, lo m.light, hi m.light,
    m.press.extractLsb' 0 8, m.press.extractLsb' 8 8, m.press.extractLsb' 16 8, m.press.extractLsb' 24 8,
    lo m.noise, hi m.noise, lo m.etvoc, hi m.etvoc, lo m.eco2, hi m.eco2, lo m.di, hi m.di, lo m.hs, hi m.hs]

/-- The raw value R85 gives a field, in arithmetic on the frame's bytes. -/
def rawAt (d : List Byte) : Field → Int
  | .sequenceNumber => u8At d 7
  | .temperature => asS16 (u16At d 8)
  | .humidity => asS16 (u16At d 10)
  | .ambientLight => asS16 (u16At d 12)
  | .pressure => asS32 (u32At d 14)
  | .noise => asS16 (u16At d 18)
  | .etvoc => asS16 (u16At d 20)
  | .eco2 => asS16 (u16At d 22)
  | .discomfortIndex => asS16 (u16At d 24)
  | .heatStrokeIndex => asS16 (u16At d 26)

/-- The code column of R120. -/
def diCode (raw : Int) : BitVec 3 :=
  if raw < 7000 then 0 else if raw < 7500 then 1 else if raw < 8000 then 2 else if raw < 8500 then 3 else 4

/-- The code column of R122. -/
def hsCode (raw : Int) : BitVec 3 := if raw < 2500 then 0 else if raw < 2800 then 1 else if raw < 3100 then 2 else 3

/-! ### What a command writes and reads (30_encoding.md R76) -/

/-- The registers of R76's last column; STATUS stands for its fields. -/
def writes : Instr → List RegName
  | .nop => [.status]
  | .crcInit => [.crc, .status]
  | .crcByte => [.crc, .status]
  | .crcRx => [.crc, .status]
  | .rxClear => [.rxlen, .status]
  | .rxPush => [.rxlen, .status]
  | .build => [.txb0, .txb1, .txb2, .txb3, .txb4, .txb5, .txb6, .txb7, .txb8, .txlen, .crc, .status]
  | .parse => [.status, .diag0, .diag1, .rxCmd, .rxAddr, .seq, .temp, .hum, .light, .press, .noise, .etvoc, .eco2, .di,
      .hs, .diClass, .hsClass, .crc]
  | .clsDi => [.diClass, .status]
  | .clsHs => [.hsClass, .status]

/-- The two states agree on every operand of R57, on RX_CAPACITY and, for CRC_BYTE alone, on CRC. -/
def SameOperands (i : Instr) (s t : State) : Prop :=
  s.ctrlStrict = t.ctrlStrict ∧ s.dataIn = t.dataIn ∧ s.addrIn = t.addrIn ∧ s.clsIn = t.clsIn ∧ s.rxlen = t.rxlen ∧
    s.frame = t.frame ∧ s.rxOvf = t.rxOvf ∧ s.rxCapacity = t.rxCapacity ∧ (i = .crcByte → s.crc = t.crc)

/-- The two states differ in nothing but RXBUF bytes that are not below RXLEN. -/
def SameVisible (s t : State) : Prop := s.frame = t.frame ∧ t = { s with rxbuf := t.rxbuf }

/-- The events of one line of a host script (30_encoding.md R89), with nothing behind them. -/
def events (l : Line) : List Event := scriptEvents [l]

end Sys2Proof.Claims

open Sys2Proof Sys2Proof.Machine Sys2Proof.Claims

/-! ## Reset (70_reset_and_hazards.md) -/

/-- R146: the reset event, at any moment, puts every piece of the block's state to its reset value and keeps RX_CAPACITY. -/
def Obligations.ResetEventRestoresEveryRegister : Prop :=
  ∀ (s : State) (rest : List Event), ∃ t, step { s with pending := .reset :: rest } = .next t ∧
    t.ctrlStrict = false ∧ t.dataIn = 0 ∧ t.addrIn = 0 ∧ t.clsIn = 0 ∧ t.crc = 0xFFFF ∧
    t.rxlen = 0 ∧ t.rxOvf = false ∧ t.txbuf.toList = [0, 0, 0, 0, 0, 0, 0, 0, 0] ∧ t.txlen = 0 ∧ t.txValid = false ∧
    t.err = 0 ∧ t.parsed = false ∧ t.measValid = false ∧ t.illegal = false ∧ t.diag0 = 0 ∧ t.diag1 = 0 ∧
    t.meas.rxCmd = 0 ∧ t.meas.rxAddr = 0 ∧ t.meas.seq = 0 ∧ t.meas.temp = 0 ∧ t.meas.hum = 0 ∧ t.meas.light = 0 ∧
    t.meas.press = 0 ∧ t.meas.noise = 0 ∧ t.meas.etvoc = 0 ∧ t.meas.eco2 = 0 ∧ t.meas.di = 0 ∧ t.meas.hs = 0 ∧
    t.diClass = 7 ∧ t.hsClass = 7 ∧ t.rxCapacity = s.rxCapacity

/-- R148: what every offset of the window reads after reset, for every capacity (its low 32 bits: log 5), and that a CRC_BYTE
sequence may start there. -/
def Obligations.WindowAfterReset : Prop :=
  ∀ (cap : Nat) (off : Byte),
    readValue (State.resetWith cap) off =
        (if off = 0x18 then 0x0000FFFF else if off = 0x5C ∨ off = 0x60 then 0x00000007
        else if off = 0x64 then BitVec.ofNat 32 cap else 0) ∧
      ∀ bs : List Byte, bs.foldl crcUpdate (State.resetWith cap).crc = crc16 bs

/-! ## The host port (20_memory.md, 44_control.md) -/

/-- R127: the step of the block, one host operation at a time; that it never steps on its own (with nothing to come, no
next state differs); and that no operation or reset is ever refused, whatever came before it. -/
def Obligations.StepIsTheSpecifiedFunction : Prop :=
  (∀ (s : State) (rest : List Event) (off : Byte) (v : Word),
    step { s with pending := .host (.read off) :: rest } =
        .next { s with pending := rest, reads := s.reads ++ [readValue s off] } ∧
      ((off.toNat % 4 ≠ 0 ∨ ∀ r : RegName, r.offset ≠ off) →
        step { s with pending := .host (.write off v) :: rest } = .next { s with pending := rest }) ∧
      (off = 0x00 →
        step { s with pending := .host (.write off v) :: rest } = dispatch v { s with pending := rest }) ∧
      (∀ r : RegName, r.offset = off → r.access = .rw →
        step { s with pending := .host (.write off v) :: rest } = .next (writeOperand r v { s with pending := rest })) ∧
      (∀ r : RegName, r.offset = off → r.access = .ro →
        step { s with pending := .host (.write off v) :: rest } = .next { s with pending := rest })) ∧
  (∀ s t : State, s.pending = [] → step s = .next t → t = s) ∧
  ∀ s : State, s.pending ≠ [] → GoesOn (step s)

/-- When the next event is a CMD write whose word decodes to a command, the step is `exec` of that command on the state
with the event taken off. -/
def Obligations.StepRunsTheDecodedCommand : Prop :=
  ∀ (s : State) (rest : List Event) (v : Word) (i : Instr), s.pending = .host (.write 0x00 v) :: rest →
    decode v = .ok i → step s = exec i { s with pending := rest }

/-- The block does nothing between host operations (10_state.md R15, 60_exceptions.md R145); that a step with nothing
pending answers the same state is the model's choice, log 2. -/
def Obligations.NothingPendingChangesNothing : Prop :=
  ∀ s : State, s.pending = [] → step s = .next s

/-- The host's side of the port, which is the model's own (log 1): a step takes exactly one event off and hands the host a
value exactly when that event is a read (the second component of R127's step); a reset leaves both alone (log 9). -/
def Obligations.OnlyReadsReturnValues : Prop :=
  ∀ (s : State) (e : Event) (rest : List Event), ∃ t, step { s with pending := e :: rest } = .next t ∧
    t.pending = rest ∧
    t.reads = s.reads ++ (match e with
      | .host (.read off) => [readValue s off]
      | .host (.write _ _) => []
      | .reset => [])

/-- R65: an access to a misaligned offset, or to any offset but the 35 of R20, reads 0 and changes nothing. The mapped
offsets are 0x00 to 0x64 and 0x80 to 0xA0 in steps of 4. -/
def Obligations.UnmappedAndMisalignedAccessesDoNothing : Prop :=
  ∀ (s : State) (rest : List Event) (off : Byte) (v : Word),
    (off.toNat % 4 ≠ 0 ∨ ¬(off.toNat ≤ 0x64 ∨ (0x80 ≤ off.toNat ∧ off.toNat ≤ 0xA0))) →
      step { s with pending := .host (.read off) :: rest } =
          .next { s with pending := rest, reads := s.reads ++ [0] } ∧
        step { s with pending := .host (.write off v) :: rest } = .next { s with pending := rest }

/-- R19: bits a register does not define read as 0 and ignore writes, a write to a read-only register changes no state,
and a read of CMD returns 0. -/
def Obligations.ReservedBitsAndReadOnlyRegisters : Prop :=
  ∀ (s : State) (rest : List Event) (r : RegName) (v : Word),
    readReg s r &&& ~~~r.definedBits = 0 ∧
      step { s with pending := .host (.write r.offset v) :: rest } =
        step { s with pending := .host (.write r.offset (v &&& r.definedBits)) :: rest } ∧
      (r.access = .ro → step { s with pending := .host (.write r.offset v) :: rest } = .next { s with pending := rest }) ∧
      readValue s 0x00 = 0

/-- R22: the fields of STATUS, bit by bit, and that no host write of STATUS changes anything. -/
def Obligations.StatusWordLayout : Prop :=
  ∀ (s : State) (rest : List Event) (v : Word),
    (readValue s 0x04).extractLsb' 0 3 = s.err ∧ (readValue s 0x04).getLsbD 3 = s.parsed ∧
      (readValue s 0x04).getLsbD 4 = s.measValid ∧ (readValue s 0x04).getLsbD 5 = s.txValid ∧
      (readValue s 0x04).getLsbD 6 = s.illegal ∧ (readValue s 0x04).getLsbD 7 = s.rxOvf ∧
      (readValue s 0x04).extractLsb' 8 24 = 0 ∧
      step { s with pending := .host (.write 0x04 v) :: rest } = .next { s with pending := rest }

/-- R131: a write of CTRL, DATA_IN, ADDR_IN or CLS_IN stores the defined bits, and changes nothing else; read back, it is
those bits. -/
def Obligations.OperandWritesStoreTheDefinedBits : Prop :=
  ∀ (s : State) (rest : List Event) (v : Word),
    step { s with pending := .host (.write 0x08 v) :: rest } =
        .next { s with ctrlStrict := v.getLsbD 0, pending := rest } ∧
      step { s with pending := .host (.write 0x0C v) :: rest } =
        .next { s with dataIn := v.extractLsb' 0 8, pending := rest } ∧
      step { s with pending := .host (.write 0x10 v) :: rest } =
        .next { s with addrIn := v.extractLsb' 0 16, pending := rest } ∧
      step { s with pending := .host (.write 0x14 v) :: rest } =
        .next { s with clsIn := v.extractLsb' 0 16, pending := rest } ∧
      ∀ (r : RegName) (t : State), r.access = .rw →
        step { s with pending := .host (.write r.offset v) :: rest } = .next t →
        (readValue t r.offset).toNat = v.toNat % (r.definedBits.toNat + 1)

/-- R132: the measurement registers read as their signed raw values, every other register as its field unsigned, CMD and
every offset without a register as 0 (RXLEN and RXCAP modulo 2^32: log 5); a read changes nothing of the block. -/
def Obligations.ReadValueExtendsEveryField : Prop :=
  ∀ s : State,
    (readValue s 0x38).toInt = s.meas.temp.toInt ∧ (readValue s 0x3C).toInt = s.meas.hum.toInt ∧
    (readValue s 0x40).toInt = s.meas.light.toInt ∧ readValue s 0x44 = s.meas.press ∧
    (readValue s 0x48).toInt = s.meas.noise.toInt ∧ (readValue s 0x4C).toInt = s.meas.etvoc.toInt ∧
    (readValue s 0x50).toInt = s.meas.eco2.toInt ∧ (readValue s 0x54).toInt = s.meas.di.toInt ∧
    (readValue s 0x58).toInt = s.meas.hs.toInt ∧
    (readValue s 0x08).toNat = s.ctrlStrict.toNat ∧ (readValue s 0x0C).toNat = s.dataIn.toNat ∧
    (readValue s 0x10).toNat = s.addrIn.toNat ∧ (readValue s 0x14).toNat = s.clsIn.toNat ∧
    (readValue s 0x18).toNat = s.crc.toNat ∧ (readValue s 0x1C).toNat = s.rxlen % 2 ^ 32 ∧
    (readValue s 0x20).toNat = s.txlen.toNat ∧ readValue s 0x24 = s.diag0 ∧ readValue s 0x28 = s.diag1 ∧
    (readValue s 0x2C).toNat = s.meas.rxCmd.toNat ∧ (readValue s 0x30).toNat = s.meas.rxAddr.toNat ∧
    (readValue s 0x34).toNat = s.meas.seq.toNat ∧ (readValue s 0x5C).toNat = s.diClass.toNat ∧
    (readValue s 0x60).toNat = s.hsClass.toNat ∧ (readValue s 0x64).toNat = s.rxCapacity % 2 ^ 32 ∧
    (readValue s 0x04).toNat = s.err.toNat + 8 * s.parsed.toNat + 16 * s.measValid.toNat + 32 * s.txValid.toNat +
      64 * s.illegal.toNat + 128 * s.rxOvf.toNat ∧
    (∀ i : Fin 9, (readValue s (BitVec.ofNat 8 (0x80 + 4 * i.val))).toNat = s.txbuf[i].toNat) ∧
    readValue s 0x00 = 0 ∧
    (∀ off : Byte, (off.toNat % 4 ≠ 0 ∨ ¬(off.toNat ≤ 0x64 ∨ (0x80 ≤ off.toNat ∧ off.toNat ≤ 0xA0))) →
      readValue s off = 0) ∧
    ∀ (off : Byte) (rest : List Event), step { s with pending := .host (.read off) :: rest } =
      .next { s with pending := rest, reads := s.reads ++ [readValue s off] }

/-- R70: the host's access right after a CMD write that runs a command reads what the command left. -/
def Obligations.ResultsAreReadableAtOnce : Prop :=
  ∀ (s : State) (v : Word) (i : Instr) (off : Byte), decode v = .ok i →
    ∃ t, exec i { s with pending := [.host (.read off)] } = .next t ∧
      Host.Core.run Sys2Proof.core 2 { s with pending := [.host (.write 0x00 v), .host (.read off)] } =
        .next { t with pending := [], reads := s.reads ++ [readValue t off] }

/-! ## The command word (30_encoding.md) -/

/-- R75, R77: a word is a command exactly when its bits [7:0] are that command's opcode in the table of R77; bits [31:8]
do not matter. -/
def Obligations.OpcodeAloneSelectsTheCommand : Prop :=
  ∀ (v : Word) (i : Instr), decode v = .ok i ↔ (v.toNat % 256, i) ∈ opcodeMap

/-- Decoding gives back what was encoded, whatever a host puts into the 24 ignored bits, as a word and as the bytes of a
platform bus. -/
def Obligations.DecodeGivesBackTheEncodedCommand : Prop :=
  ∀ (i : Instr) (high : BitVec 24), i.wf = true → decode (encode i) = .ok i ∧
    decode (high ++ (encode i).extractLsb' 0 8) = .ok i ∧
    decodeBytes (wordBytes (high ++ (encode i).extractLsb' 0 8)) = .ok i

/-- R78, R129: the illegal opcodes are the 246 values of R78; writing one sets ILLEGAL and changes nothing else; the next
legal command clears it; OP 0x02 is CRC_BYTE, and no request carries the write command byte 0x02. -/
def Obligations.IllegalOpcodesOnlySetIllegal : Prop :=
  ((List.range 256).filter illegalOp).length = 246 ∧
    (∀ (s : State) (rest : List Event) (v : Word), illegalOp (v.toNat % 256) = true →
      decode v = .error (.illegalOpcode (v.extractLsb' 0 8)) ∧
        step { s with pending := .host (.write 0x00 v) :: rest } = .next { s with illegal := true, pending := rest }) ∧
    (∀ v : Word, illegalOp (v.toNat % 256) = false → ∃ i, decode v = .ok i) ∧
    (∀ (s : State) (i : Instr), ∃ t, exec i { s with illegal := true } = .next t ∧ t.illegal = false) ∧
    decode 0x02 = .ok .crcByte ∧ ∀ a : Half, (buildRequest a).toList[4]? = some 0x01

/-- Words written out from R77 and R75 decode to their commands (a sanity statement). -/
def Obligations.WrittenOutWordsDecode : Prop :=
  decode 0b00000000000000000000000000000000 = .ok .nop ∧ decode 0b00000000000000000000000000000010 = .ok .crcByte ∧
    decode 0b00000000000000000000000000010001 = .ok .rxPush ∧ decode 0b00000000000000000000000100100000 = .ok .build ∧
    decode 0b00000000000000000000000100110000 = .ok .parse ∧ decode 0b00000000000000000000000001000001 = .ok .clsHs ∧
    decode 0x55 = .error (.illegalOpcode 0x55)

/-- R62: no two of the ten fields of a response overlap, and none reaches the trailing checksum of a frame of 30 bytes or
more. -/
def Obligations.FieldsDoNotOverlap : Prop :=
  Field.all.Pairwise (fun f g => f.offset + f.width ≤ g.offset) ∧ (∀ f : Field, f ∈ Field.all) ∧
    ∀ (n : Nat) (f : Field), 30 ≤ n → f.offset + f.width ≤ n - 2

/-- R86: the physical value of a field is its raw value divided by its scale, exactly; with the document's examples. -/
def Obligations.PhysicalValuesAreExact : Prop :=
  ∀ m : Measurement,
    m.physical .temperature * 100 = m.raw .temperature ∧ m.physical .humidity * 100 = m.raw .humidity ∧
    m.physical .noise * 100 = m.raw .noise ∧ m.physical .discomfortIndex * 100 = m.raw .discomfortIndex ∧
    m.physical .heatStrokeIndex * 100 = m.raw .heatStrokeIndex ∧ m.physical .pressure * 1000 = m.raw .pressure ∧
    m.physical .ambientLight = m.raw .ambientLight ∧ m.physical .etvoc = m.raw .etvoc ∧
    m.physical .eco2 = m.raw .eco2 ∧ m.physical .sequenceNumber = m.raw .sequenceNumber ∧
    (m.raw .temperature = 2550 → m.physical .temperature = 51 / 2) ∧
    (m.raw .pressure = 1013250 → m.physical .pressure = 4053 / 4) ∧
    (m.raw .temperature = -50 → m.physical .temperature = -(1 / 2))

/-! ## The CRC-16 Engine (40_crc.md) -/

/-- R90: `crc_update` is XOR into the low byte, then eight times a halving with XOR 0xA001 on an odd register. -/
def Obligations.CrcUpdateIsTheBitSerialStep : Prop :=
  ∀ (r : Half) (b : Byte), (crcUpdate r b).toNat = crcUpdateNat r.toNat b.toNat

/-- R91: from 0xFFFF, each byte in sequence order, no final XOR. -/
def Obligations.ChecksumFoldsTheBytes : Prop :=
  crc16 [] = 0xFFFF ∧ ∀ (bs : List Byte) (b : Byte), crc16 (bs ++ [b]) = crcUpdate (crc16 bs) b

/-- The known answers of R92 and 95_test_vectors.md V-C3 (a sanity statement). -/
def Obligations.ChecksumKnownAnswers : Prop :=
  crc16 [0x52, 0x42, 0x05, 0x00, 0x01, 0x22, 0x50] = 0xBBE2 ∧ crc16 [0x01, 0x02] = 0xE181 ∧
    crc16 [0x02, 0x01] = 0x10C1 ∧ crc16 [0x31, 0x32, 0x33, 0x34, 0x35, 0x36, 0x37, 0x38, 0x39] = 0x4B37

/-- The residue property (93_implementation_defined.md G4): a byte sequence with its own checksum behind it, low byte
first, has checksum 0; and no other two bytes behind it give 0. -/
def Obligations.ChecksumResidueIsZero : Prop :=
  ∀ (bs : List Byte) (c : Half), crc16 (bs ++ bytes16 c) = 0 ↔ c = crc16 bs

/-- R94. -/
def Obligations.CrcInitSetsTheInitialValue : Prop :=
  ∀ (s : State) (v : Word),
    exec .crcInit s = .next { s with crc := 0xFFFF, illegal := false } ∧
      exec .crcInit { s with crc := 0xFFFF, illegal := false } = .next { s with crc := 0xFFFF, illegal := false } ∧
      (v.extractLsb' 0 8 = 0x01 → decode v = .ok .crcInit)

/-- R95: one byte is folded into the running register; after CRC_INIT and one DATA_IN write and CRC_BYTE per byte, from any
state, CRC holds the checksum of the bytes. -/
def Obligations.CrcByteFoldsOneByte : Prop :=
  (∀ (s : State) (v : Word),
    exec .crcByte s = .next { s with crc := crcUpdate s.crc s.dataIn, illegal := false } ∧
      (v.extractLsb' 0 8 = 0x02 → decode v = .ok .crcByte) ∧
      (s.crc = 0xFFFF → s.dataIn = 0x52 → exec .crcByte s = .next { s with crc := 0xBD3E, illegal := false })) ∧
  ∀ (s : State) (bs : List Byte), ∃ t,
    Host.Core.run Sys2Proof.core (2 * bs.length + 1) { s with pending := events (.crcBytes (bs.map BitVec.toNat)) } =
        .next t ∧
      t = { s with crc := crc16 bs, dataIn := bs.getLastD s.dataIn, illegal := false, pending := [] }

/-- R96: the checksum of the bytes in the buffer, whatever CRC held; running it again changes nothing; over a frame that
ends with its own checksum, low byte first, it is 0. -/
def Obligations.CrcRxChecksumsTheBuffer : Prop :=
  ∀ (s : State) (v : Word) (c : Half),
    exec .crcRx s = .next { s with crc := crc16 s.frame, illegal := false } ∧
      exec .crcRx { s with crc := c } = exec .crcRx s ∧
      exec .crcRx { s with crc := crc16 s.frame, illegal := false } =
        .next { s with crc := crc16 s.frame, illegal := false } ∧
      (∀ bs : List Byte, s.frame = bs ++ bytes16 (crc16 bs) →
        exec .crcRx s = .next { s with crc := 0, illegal := false }) ∧
      (s.rxlen = 0 → exec .crcRx s = .next { s with crc := 0xFFFF, illegal := false }) ∧
      (s.frame = [0x52, 0x42, 0x05, 0x00, 0x01, 0x22, 0x50] →
        exec .crcRx s = .next { s with crc := 0xBBE2, illegal := false }) ∧
      (v.extractLsb' 0 8 = 0x03 → decode v = .ok .crcRx)

/-! ## The Frame Serializer (41_serializer.md) -/

/-- R97, R81: the nine bytes of the request for any address, with LEN 5, command 1 and the checksum of the first seven. -/
def Obligations.RequestFrameLayout : Prop :=
  ∀ a : Half,
    (buildRequest a).toList =
        [0x52, 0x42, 0x05, 0x00, 0x01] ++ bytes16 a ++
          bytes16 (crc16 ([0x52, 0x42, 0x05, 0x00, 0x01] ++ bytes16 a)) ∧
      (buildRequest a).toList.length = 9 ∧ u16At (buildRequest a).toList 2 = 9 - 4 ∧
      u16At (buildRequest a).toList 5 = a.toNat ∧
      u16At (buildRequest a).toList 7 = (crc16 ((buildRequest a).toList.take 7)).toNat

/-- R99: BUILD writes the request for ADDR_IN, TXLEN 9, TX_VALID, and the checksum into CRC, and nothing else; doing it
twice is doing it once. -/
def Obligations.BuildWritesTheRequest : Prop :=
  ∀ (s : State) (v : Word), ∃ t,
    exec .build s = .next t ∧
      t = { s with txbuf := buildRequest s.addrIn, txlen := 9, txValid := true, crc := t.crc, illegal := false } ∧
      t.crc.toNat = u16At (buildRequest s.addrIn).toList 7 ∧ exec .build t = .next t ∧
      (s.addrIn = 0x5022 →
        t.txbuf.toList = [0x52, 0x42, 0x05, 0x00, 0x01, 0x22, 0x50, 0xE2, 0xBB] ∧ t.crc = 0xBBE2) ∧
      (v.extractLsb' 0 8 = 0x20 → decode v = .ok .build)

/-- R100: the round-trip property in register terms. -/
def Obligations.BuiltRequestReadsBack : Prop :=
  ∀ s : State, s.addrIn = 0x5022 → ∃ t, exec .build s = .next t ∧
    readValue t 0x20 = 9 ∧ readValue t 0x80 = 0x52 ∧ readValue t 0x84 = 0x42 ∧
    (readValue t 0x88).toNat + 256 * (readValue t 0x8C).toNat = 5 ∧ readValue t 0x90 = 0x01 ∧
    (readValue t 0x94).toNat + 256 * (readValue t 0x98).toNat = 0x5022

/-! ## The receive buffer (42_parser.md) -/

/-- R102: RX_CLEAR sets RXLEN and RX_OVF to 0 and changes nothing else: every byte of RXBUF reads as before. -/
def Obligations.RxClearEmptiesTheBuffer : Prop :=
  ∀ (s : State) (v : Word), ∃ t, exec .rxClear s = .next t ∧
    t = { s with rxlen := 0, rxOvf := false, illegal := false } ∧ (∀ a, t.rxByte a = s.rxByte a) ∧ t.frame = [] ∧
    exec .rxClear t = .next t ∧ (v.extractLsb' 0 8 = 0x10 → decode v = .ok .rxClear)

/-- R103: RX_PUSH stores DATA_IN at RXLEN and counts it, or on a full buffer drops it and sets RX_OVF; every other byte of
RXBUF and every other register is unchanged. -/
def Obligations.RxPushAppendsOrOverflows : Prop :=
  ∀ (s : State) (v : Word),
    (s.rxlen < s.rxCapacity → ∃ t, exec .rxPush s = .next t ∧
      t = { s with rxbuf := t.rxbuf, rxlen := s.rxlen + 1, illegal := false } ∧ t.rxByte s.rxlen = s.dataIn ∧
      (∀ a, a ≠ s.rxlen → t.rxByte a = s.rxByte a) ∧ t.frame = s.frame ++ [s.dataIn] ∧ t.rxlen ≤ s.rxCapacity) ∧
    (s.rxCapacity ≤ s.rxlen → exec .rxPush s = .next { s with rxOvf := true, illegal := false } ∧
      exec .rxPush { s with rxOvf := true, illegal := false } = .next { s with rxOvf := true, illegal := false }) ∧
    (v.extractLsb' 0 8 = 0x11 → decode v = .ok .rxPush)

/-- R101, with the pseudo-statement of 30_encoding.md R89: `load_rx`, from any state, leaves the buffer holding exactly the
bytes given, in order, as many as fit, with RX_OVF telling whether some did not. -/
def Obligations.LoadRxLoadsTheBytes : Prop :=
  ∀ (s : State) (bs : List Byte), ∃ t,
    Host.Core.run Sys2Proof.core (2 * bs.length + 1) { s with pending := events (.loadRx (bs.map BitVec.toNat)) } =
        .next t ∧
      t = { s with rxbuf := t.rxbuf, rxlen := t.rxlen, rxOvf := decide (s.rxCapacity < bs.length),
                   dataIn := bs.getLastD s.dataIn, illegal := false, pending := [] } ∧
      t.frame = bs.take s.rxCapacity

/-! ## PARSE (42_parser.md) -/

/-- R105 to R110, R114, R136: PARSE always ends in a next state with the first failing check's code and diagnostics, in the
order of R136; CRC takes the computed checksum exactly when the checksum step is reached. -/
def Obligations.ParseReportsTheFirstFailingCheck : Prop :=
  ∀ s : State, ∃ t, exec .parse s = .next t ∧
    t.err.toNat = (outcomeOf s).1 ∧ t.diag0 = BitVec.ofNat 32 (outcomeOf s).2.1 ∧
    t.diag1 = BitVec.ofNat 32 (outcomeOf s).2.2 ∧ t.parsed = true ∧ t.illegal = false ∧ t.crc = crcAfterParse s

/-- R113: a failed PARSE changes ERR, DIAG0, DIAG1, PARSED, ILLEGAL and, if the checksum step was reached, CRC, and nothing
else. -/
def Obligations.FailedParseKeepsTheResults : Prop :=
  ∀ s : State, (outcomeOf s).1 ≠ 0 →
    exec .parse s = .next { s with
      err := BitVec.ofNat 3 (outcomeOf s).1, diag0 := BitVec.ofNat 32 (outcomeOf s).2.1,
      diag1 := BitVec.ofNat 32 (outcomeOf s).2.2, parsed := true, illegal := false, crc := crcAfterParse s }

/-- R111, R85, R124: a successful PARSE leaves every field's raw value as R85 computes it from the frame's bytes, the
command and address bytes, both classifications, ERR and the diagnostics 0, MEAS_VALID set, and changes nothing else. -/
def Obligations.SuccessfulParseDecodesEveryField : Prop :=
  ∀ s : State, (outcomeOf s).1 = 0 → ∃ m : Measurement,
    exec .parse s = .next { s with
        meas := m, diClass := diCode (rawAt s.frame .discomfortIndex), hsClass := hsCode (rawAt s.frame .heatStrokeIndex),
        err := 0, diag0 := 0, diag1 := 0, parsed := true, measValid := true, illegal := false, crc := crcAfterParse s } ∧
      (∀ f : Field, m.raw f = rawAt s.frame f) ∧ m.rxCmd.toNat = u8At s.frame 4 ∧ m.rxAddr = 0x5022

/-- R112: the operands, results and corner cases of PARSE that no other statement says: the encoding, that RXBUF, RXLEN and
RX_OVF stay, that lenient mode never writes CRC, and that a success needs no overflow, the right header, LEN and address,
and 28 bytes (30 and the right checksum in strict mode), and nothing more. -/
def Obligations.ParseAcceptsExactlyTheValidFrames : Prop :=
  ∀ (s : State) (v : Word), ∃ t, exec .parse s = .next t ∧
    (t.err = 0 ↔ s.rxOvf = false ∧ u8At s.frame 0 = 0x52 ∧ u8At s.frame 1 = 0x42 ∧
      u16At s.frame 2 + 4 = s.frame.length ∧ u16At s.frame 5 = 0x5022 ∧ 28 ≤ s.frame.length ∧
      (s.ctrlStrict = true → 30 ≤ s.frame.length ∧
        u16At s.frame (s.frame.length - 2) = (crc16 (s.frame.take (s.frame.length - 2))).toNat)) ∧
    t.rxbuf = s.rxbuf ∧ t.rxlen = s.rxlen ∧ t.rxOvf = s.rxOvf ∧ (s.ctrlStrict = false → t.crc = s.crc) ∧
    (v.extractLsb' 0 8 = 0x30 → decode v = .ok .parse)

/-- Every measurement set, in a response frame laid out by 30_encoding.md R84 with any bytes behind the fields, is what a
lenient PARSE of that frame decodes. -/
def Obligations.LenientParseRecoversEveryFrame : Prop :=
  ∀ (s : State) (m : Measurement) (tail : List Byte),
    s.rxOvf = false → s.ctrlStrict = false → m.rxAddr = 0x5022 → tail.length ≤ 65511 →
    s.frame = responseHead m (24 + tail.length) ++ tail →
    exec .parse s = .next { s with
      meas := m, diClass := diCode m.di.toInt, hsClass := hsCode m.hs.toInt, err := 0, diag0 := 0, diag1 := 0,
      parsed := true, measValid := true, illegal := false }

/-- The same in strict mode for a frame that ends with the checksum of all its other bytes, low byte first; CRC holds that
checksum. -/
def Obligations.StrictParseRecoversEveryFrame : Prop :=
  ∀ (s : State) (m : Measurement) (pad : List Byte),
    s.rxOvf = false → s.ctrlStrict = true → m.rxAddr = 0x5022 → pad.length ≤ 65509 →
    s.frame = responseHead m (26 + pad.length) ++ pad ++ bytes16 (crc16 (responseHead m (26 + pad.length) ++ pad)) →
    exec .parse s = .next { s with
      meas := m, diClass := diCode m.di.toInt, hsClass := hsCode m.hs.toInt, err := 0, diag0 := 0, diag1 := 0,
      parsed := true, measValid := true, illegal := false, crc := crc16 (responseHead m (26 + pad.length) ++ pad) }

/-- The bytes from offset 28 on do not affect a lenient PARSE (R111): two states that differ only in such bytes of the
frame are left differing only there. -/
def Obligations.LenientParseIgnoresTheTail : Prop :=
  ∀ (s : State) (b : Memory), s.ctrlStrict = false →
    (∀ i, i < 28 → ({ s with rxbuf := b } : State).rxByte i = s.rxByte i) →
    ∃ t, exec .parse s = .next t ∧ exec .parse { s with rxbuf := b } = .next { t with rxbuf := b }

/-- R116: with RX_OVF clear, a lenient PARSE ends as the document's reference decoder does, and with Truncated where that
would read beyond the frame, which happens to no frame of 28 bytes or more. What the reference is, is the model's reading (log 18). -/
def Obligations.LenientModeMatchesTheReference : Prop :=
  ∀ s : State, s.ctrlStrict = false → s.rxOvf = false → ∃ t, exec .parse s = .next t ∧
    t.err.toNat = (referenceCode s.frame).getD 4 ∧ (28 ≤ s.frame.length → (referenceCode s.frame).isSome = true)

/-- R115: a second PARSE right after the first leaves the same state. -/
def Obligations.ParseTwiceIsParseOnce : Prop :=
  ∀ s : State, ∃ t, exec .parse s = .next t ∧ exec .parse t = .next t

/-! ## The Classifier (43_classifier.md) -/

/-- R120: the code table, and that it is the document's classifier on `raw / 100`. -/
def Obligations.DiscomfortCodesMatchTheDocument : Prop :=
  ∀ raw : Int,
    (classDi raw).code = diCode raw ∧ classDi raw = classifyDi ((raw : ℚ) / 100) ∧
      ((classDi raw).code = 0 ↔ raw < 7000) ∧ ((classDi raw).code = 1 ↔ 7000 ≤ raw ∧ raw < 7500) ∧
      ((classDi raw).code = 2 ↔ 7500 ≤ raw ∧ raw < 8000) ∧ ((classDi raw).code = 3 ↔ 8000 ≤ raw ∧ raw < 8500) ∧
      ((classDi raw).code = 4 ↔ 8500 ≤ raw)

/-- R122: the code table, and that it is the document's classifier on `raw / 100`. -/
def Obligations.HeatStrokeCodesMatchTheDocument : Prop :=
  ∀ raw : Int,
    (classHs raw).code = hsCode raw ∧ classHs raw = classifyHs ((raw : ℚ) / 100) ∧
      ((classHs raw).code = 0 ↔ raw < 2500) ∧ ((classHs raw).code = 1 ↔ 2500 ≤ raw ∧ raw < 2800) ∧
      ((classHs raw).code = 2 ↔ 2800 ≤ raw ∧ raw < 3100) ∧ ((classHs raw).code = 3 ↔ 3100 ≤ raw)

/-- R126's argument for a reimplementation that classifies a rounded quotient: a value less than 0.01 from `raw / 100`, and
equal to it where that is an integer, is classified as the block classifies `raw`. -/
def Obligations.RoundedQuotientsClassifyAlike : Prop :=
  ∀ (raw : Int) (y : ℚ), |y - (raw : ℚ) / 100| < 1 / 100 → (raw % 100 = 0 → y = (raw : ℚ) / 100) →
    classifyDi y = classDi raw ∧ classifyHs y = classHs raw

/-- R121: CLS_DI classifies CLS_IN, read as s16, and changes DI_CLASS and ILLEGAL alone. -/
def Obligations.ClsDiClassifiesTheOperand : Prop :=
  ∀ (s : State) (v : Word),
    exec .clsDi s = .next { s with diClass := diCode (asS16 s.clsIn.toNat), illegal := false } ∧
      (s.clsIn = 0x8000 → exec .clsDi s = .next { s with diClass := 0, illegal := false }) ∧
      (s.clsIn = 0x7FFF → exec .clsDi s = .next { s with diClass := 4, illegal := false }) ∧
      (s.clsIn = 0x1B58 → exec .clsDi s = .next { s with diClass := 1, illegal := false }) ∧
      (s.clsIn = 0x1B57 → exec .clsDi s = .next { s with diClass := 0, illegal := false }) ∧
      (v.extractLsb' 0 8 = 0x40 → decode v = .ok .clsDi)

/-- R123: CLS_HS classifies CLS_IN, read as s16, and changes HS_CLASS and ILLEGAL alone. -/
def Obligations.ClsHsClassifiesTheOperand : Prop :=
  ∀ (s : State) (v : Word),
    exec .clsHs s = .next { s with hsClass := hsCode (asS16 s.clsIn.toNat), illegal := false } ∧
      (s.clsIn = 0x8000 → exec .clsHs s = .next { s with hsClass := 0, illegal := false }) ∧
      (s.clsIn = 0x7FFF → exec .clsHs s = .next { s with hsClass := 3, illegal := false }) ∧
      (s.clsIn.toNat = 3100 → exec .clsHs s = .next { s with hsClass := 3, illegal := false }) ∧
      (s.clsIn.toNat = 3099 → exec .clsHs s = .next { s with hsClass := 2, illegal := false }) ∧
      (v.extractLsb' 0 8 = 0x41 → decode v = .ok .clsHs)

/-- R125: the labels of the codes, and that a larger code is a hotter category. -/
def Obligations.LabelsAndCodeOrder : Prop :=
  (diLabel 0 = some "comfortable" ∧ diLabel 1 = some "not hot" ∧ diLabel 2 = some "somewhat hot" ∧
    diLabel 3 = some "hot, sweating" ∧ diLabel 4 = some "unbearably hot" ∧ diLabel 7 = none) ∧
  (hsLabel 0 = some "caution" ∧ hsLabel 1 = some "warning" ∧ hsLabel 2 = some "severe warning" ∧
    hsLabel 3 = some "danger" ∧ hsLabel 7 = none) ∧
  ∀ raw raw' : Int, raw ≤ raw' →
    (classDi raw).code ≤ (classDi raw').code ∧ (classHs raw).code ≤ (classHs raw').code

/-! ## Control (44_control.md) -/

/-- R130: NOP clears ILLEGAL and changes nothing else. -/
def Obligations.NopOnlyClearsIllegal : Prop :=
  ∀ (s : State) (v : Word),
    exec .nop s = .next { s with illegal := false } ∧ (v.extractLsb' 0 8 = 0x00 → decode v = .ok .nop)

/-! ## Host scripts (30_encoding.md) -/

/-- R89: from any state, `build`, `parse_lenient`, `parse_strict`, `classify_di` and `classify_hs` write their operand and
then run their command on it; a negative index is classified as such. (`load_rx` and `crc_bytes` have statements above.) -/
def Obligations.PseudoStatementsRunTheirCommands : Prop :=
  ∀ s : State,
    (∀ a : Half, Host.Core.run Sys2Proof.core 2 { s with pending := events (.build a.toNat) } =
      exec .build { s with addrIn := a, pending := [] }) ∧
    Host.Core.run Sys2Proof.core 2 { s with pending := events .parseLenient } =
      exec .parse { s with ctrlStrict := false, pending := [] } ∧
    Host.Core.run Sys2Proof.core 2 { s with pending := events .parseStrict } =
      exec .parse { s with ctrlStrict := true, pending := [] } ∧
    ∀ v : Int, -32768 ≤ v → v ≤ 32767 →
      (∃ t, Host.Core.run Sys2Proof.core 2 { s with pending := events (.classifyDi v) } = .next t ∧
        t = { s with clsIn := t.clsIn, diClass := diCode v, illegal := false, pending := [] } ∧ t.clsIn.toInt = v) ∧
      ∃ t, Host.Core.run Sys2Proof.core 2 { s with pending := events (.classifyHs v) } = .next t ∧
        t = { s with clsIn := t.clsIn, hsClass := hsCode v, illegal := false, pending := [] } ∧ t.clsIn.toInt = v

/-! ## The whole machine -/

/-- The frame of every command (30_encoding.md R76, the column of writes): it ends in a next state; every register not named
in its row reads as before, CRC too for a lenient PARSE; of STATUS only the fields named change; of RXBUF only byte RXLEN of
an RX_PUSH that fits; RX_CAPACITY and the host's side stay. -/
def Obligations.CommandsChangeOnlyTheirRegisters : Prop :=
  ∀ (i : Instr) (s : State), ∃ t, exec i s = .next t ∧
    (∀ r : RegName, r ∉ writes i → readReg t r = readReg s r) ∧
    (i = .parse → s.ctrlStrict = false → t.crc = s.crc) ∧
    t.illegal = false ∧
    (i ≠ .rxClear → i ≠ .rxPush → t.rxOvf = s.rxOvf ∧ t.rxlen = s.rxlen) ∧
    (i ≠ .build → t.txValid = s.txValid ∧ t.txbuf = s.txbuf) ∧
    (i ≠ .parse → t.err = s.err ∧ t.parsed = s.parsed ∧ t.measValid = s.measValid) ∧
    (∀ a, ¬(i = .rxPush ∧ s.rxlen < s.rxCapacity ∧ a = s.rxlen) → t.rxByte a = s.rxByte a) ∧
    t.rxCapacity = s.rxCapacity ∧ t.pending = s.pending ∧ t.reads = s.reads

/-- R57: the result of every command depends only on its operands (and RX_CAPACITY), and for CRC_BYTE on CRC: from two
states that agree on them, each register and each STATUS field ends equal in both or unchanged in both, and the frames
are equal. -/
def Obligations.ResultsDependOnOperandsAlone : Prop :=
  ∀ (i : Instr) (s₁ s₂ : State), SameOperands i s₁ s₂ → ∃ t₁ t₂, exec i s₁ = .next t₁ ∧ exec i s₂ = .next t₂ ∧
    (∀ r : RegName, r ≠ .status →
      readReg t₁ r = readReg t₂ r ∨ (readReg t₁ r = readReg s₁ r ∧ readReg t₂ r = readReg s₂ r)) ∧
    (t₁.err = t₂.err ∨ (t₁.err = s₁.err ∧ t₂.err = s₂.err)) ∧
    (t₁.parsed = t₂.parsed ∨ (t₁.parsed = s₁.parsed ∧ t₂.parsed = s₂.parsed)) ∧
    (t₁.measValid = t₂.measValid ∨ (t₁.measValid = s₁.measValid ∧ t₂.measValid = s₂.measValid)) ∧
    (t₁.txValid = t₂.txValid ∨ (t₁.txValid = s₁.txValid ∧ t₂.txValid = s₂.txValid)) ∧
    t₁.illegal = t₂.illegal ∧ t₁.rxOvf = t₂.rxOvf ∧ t₁.rxlen = t₂.rxlen ∧ t₁.frame = t₂.frame

/-- Bytes of RXBUF at or above RXLEN are unobservable (10_state.md R54, U3): after any number of steps two states that
differed only in such bytes still differ only in such bytes, and the host has read the same values. -/
def Obligations.UnspecifiedBytesAreUnobservable : Prop :=
  ∀ (n : Nat) (s₁ s₂ : State), SameVisible s₁ s₂ →
    ∃ t₁ t₂, Host.Core.run Sys2Proof.core n s₁ = .next t₁ ∧ Host.Core.run Sys2Proof.core n s₂ = .next t₂ ∧
      SameVisible t₁ t₂

/-- R24, R25, R26: PARSED is set by every PARSE, MEAS_VALID by every successful one, TX_VALID by every BUILD; no other
command changes them; a reset clears them, and no other step does. -/
def Obligations.StickyFlagsAreClearedOnlyByReset : Prop :=
  (∀ (i : Instr) (s : State), ∃ t, exec i s = .next t ∧
    t.parsed = (s.parsed || decide (i = .parse)) ∧
    t.measValid = (s.measValid || (decide (i = .parse) && t.err == 0)) ∧
    t.txValid = (s.txValid || decide (i = .build))) ∧
  (∀ (s : State) (rest : List Event), ∃ t, step { s with pending := .reset :: rest } = .next t ∧
    t.parsed = false ∧ t.measValid = false ∧ t.txValid = false) ∧
  ∀ s : State, s.pending.head? ≠ some .reset → ∃ t, step s = .next t ∧
    (s.parsed = true → t.parsed = true) ∧ (s.measValid = true → t.measValid = true) ∧
    (s.txValid = true → t.txValid = true)

/-- R27: ILLEGAL is written by every write to CMD, 1 for an illegal opcode and 0 for a legal one, and by nothing but that
and reset. -/
def Obligations.IllegalDescribesTheLastCommand : Prop :=
  ∀ (s : State) (rest : List Event),
    (∀ v : Word, ∃ t, step { s with pending := .host (.write 0x00 v) :: rest } = .next t ∧
      t.illegal = illegalOp (v.toNat % 256)) ∧
    (∀ off : Byte, ∃ t, step { s with pending := .host (.read off) :: rest } = .next t ∧ t.illegal = s.illegal) ∧
    ∀ (off : Byte) (v : Word), off ≠ 0x00 →
      ∃ t, step { s with pending := .host (.write off v) :: rest } = .next t ∧ t.illegal = s.illegal

/-- R28: RX_OVF is set by an RX_PUSH on a full buffer and cleared by RX_CLEAR and reset, by nothing else; while it is 1,
PARSE fails with Overflow. -/
def Obligations.OverflowFlagLifecycle : Prop :=
  ∀ (s : State), s.rxlen ≤ s.rxCapacity →
    (∀ i : Instr, ∃ t, exec i s = .next t ∧
      t.rxOvf = if i = .rxClear then false
        else if i = .rxPush ∧ s.rxlen = s.rxCapacity then true else s.rxOvf) ∧
    (s.rxOvf = true → ∃ t, exec .parse s = .next t ∧ t.err = 6) ∧
    (∀ rest : List Event, ∃ t, step { s with pending := .reset :: rest } = .next t ∧ t.rxOvf = false) ∧
    ∀ (rest : List Event) (op : HostOp), (∀ v : Word, op ≠ .write 0x00 v) →
      ∃ t, step { s with pending := .host op :: rest } = .next t ∧ t.rxOvf = s.rxOvf

/-- R52: RXCAP is RX_CAPACITY at reset and always: no step changes it, and it reads as that constant (its low 32 bits:
log 5). -/
def Obligations.CapacityIsConstant : Prop :=
  (∀ s : State, ∃ t, step s = .next t ∧ t.rxCapacity = s.rxCapacity ∧
    readValue t 0x64 = BitVec.ofNat 32 s.rxCapacity) ∧
  ∀ cap : Nat, readValue (State.resetWith cap) 0x64 = BitVec.ofNat 32 cap

/-- The operand registers are written by the host alone (10_state.md R17): no command changes CTRL, DATA_IN, ADDR_IN or
CLS_IN, and a step that changes one of them is a host write to its offset or a reset. -/
def Obligations.OperandRegistersBelongToTheHost : Prop :=
  (∀ (i : Instr) (s : State), ∃ t, exec i s = .next t ∧
    t.ctrlStrict = s.ctrlStrict ∧ t.dataIn = s.dataIn ∧ t.addrIn = s.addrIn ∧ t.clsIn = s.clsIn) ∧
  ∀ s : State, s.pending.head? ≠ some .reset → ∃ t, step s = .next t ∧
    (t.ctrlStrict ≠ s.ctrlStrict → ∃ v, s.pending.head? = some (.host (.write 0x08 v))) ∧
    (t.dataIn ≠ s.dataIn → ∃ v, s.pending.head? = some (.host (.write 0x0C v))) ∧
    (t.addrIn ≠ s.addrIn → ∃ v, s.pending.head? = some (.host (.write 0x10 v))) ∧
    (t.clsIn ≠ s.clsIn → ∃ v, s.pending.head? = some (.host (.write 0x14 v)))

/-- R33: CRC is written by CRC_INIT, CRC_BYTE, CRC_RX, BUILD and a strict PARSE that reaches its checksum step, and by no
other command; its reset value is 0xFFFF. -/
def Obligations.CrcRegisterWriters : Prop :=
  (∀ (i : Instr) (s : State), ∃ t, exec i s = .next t ∧
    (i ≠ .crcInit → i ≠ .crcByte → i ≠ .crcRx → i ≠ .build → ¬(i = .parse ∧ checksumReached s = true) →
      t.crc = s.crc) ∧
    (i = .crcInit → t.crc = 0xFFFF) ∧ (i = .crcByte → t.crc = crcUpdate s.crc s.dataIn) ∧
    (i = .crcRx → t.crc = crc16 s.frame) ∧ (i = .build → t.crc = crc16 ((buildRequest s.addrIn).toList.take 7)) ∧
    (i = .parse ∧ checksumReached s = true → t.crc = crc16 (s.frame.take (s.frame.length - 2)))) ∧
  ∀ cap : Nat, readValue (State.resetWith cap) 0x18 = 0xFFFF

/-- R133: the block never stops: from every state, any number of steps ends in a next state. -/
def Obligations.TheBlockNeverStops : Prop :=
  ∀ (n : Nat) (s : State), ∃ t, Host.Core.run Sys2Proof.core n s = .next t

/-- The invariant holds right after reset, for every admissible capacity. -/
def Obligations.ResetMeetsTheInvariant : Prop :=
  ∀ cap : Nat, 30 ≤ cap → Inv (State.resetWith cap)

/-- Every step keeps the invariant: the buffer's bounds and canonical form, the legal codes, and what the flags say of the
registers. -/
def Obligations.StepKeepsTheInvariant : Prop :=
  ∀ s t : State, Inv s → step s = .next t → Inv t
end

