-- ==== Sys2Proof/Laws/State.lean ====
section
/-! SUPPORT. One lemma per field per update of the state, so that no later proof unfolds a record update. -/

namespace Sys2Proof.Machine

variable (s : State)

/-! ### setCrc -/

@[simp] theorem State.setCrc_ctrlStrict (c : Half) : (s.setCrc c).ctrlStrict = s.ctrlStrict := rfl
@[simp] theorem State.setCrc_dataIn (c : Half) : (s.setCrc c).dataIn = s.dataIn := rfl
@[simp] theorem State.setCrc_addrIn (c : Half) : (s.setCrc c).addrIn = s.addrIn := rfl
@[simp] theorem State.setCrc_clsIn (c : Half) : (s.setCrc c).clsIn = s.clsIn := rfl
@[simp] theorem State.setCrc_crc (c : Half) : (s.setCrc c).crc = c := rfl
@[simp] theorem State.setCrc_rxCapacity (c : Half) : (s.setCrc c).rxCapacity = s.rxCapacity := rfl
@[simp] theorem State.setCrc_rxbuf (c : Half) : (s.setCrc c).rxbuf = s.rxbuf := rfl
@[simp] theorem State.setCrc_rxlen (c : Half) : (s.setCrc c).rxlen = s.rxlen := rfl
@[simp] theorem State.setCrc_rxOvf (c : Half) : (s.setCrc c).rxOvf = s.rxOvf := rfl
@[simp] theorem State.setCrc_txbuf (c : Half) : (s.setCrc c).txbuf = s.txbuf := rfl
@[simp] theorem State.setCrc_txlen (c : Half) : (s.setCrc c).txlen = s.txlen := rfl
@[simp] theorem State.setCrc_txValid (c : Half) : (s.setCrc c).txValid = s.txValid := rfl
@[simp] theorem State.setCrc_err (c : Half) : (s.setCrc c).err = s.err := rfl
@[simp] theorem State.setCrc_parsed (c : Half) : (s.setCrc c).parsed = s.parsed := rfl
@[simp] theorem State.setCrc_measValid (c : Half) : (s.setCrc c).measValid = s.measValid := rfl
@[simp] theorem State.setCrc_illegal (c : Half) : (s.setCrc c).illegal = s.illegal := rfl
@[simp] theorem State.setCrc_diag0 (c : Half) : (s.setCrc c).diag0 = s.diag0 := rfl
@[simp] theorem State.setCrc_diag1 (c : Half) : (s.setCrc c).diag1 = s.diag1 := rfl
@[simp] theorem State.setCrc_meas (c : Half) : (s.setCrc c).meas = s.meas := rfl
@[simp] theorem State.setCrc_diClass (c : Half) : (s.setCrc c).diClass = s.diClass := rfl
@[simp] theorem State.setCrc_hsClass (c : Half) : (s.setCrc c).hsClass = s.hsClass := rfl
@[simp] theorem State.setCrc_pending (c : Half) : (s.setCrc c).pending = s.pending := rfl
@[simp] theorem State.setCrc_reads (c : Half) : (s.setCrc c).reads = s.reads := rfl

/-! ### storeRx -/

@[simp] theorem State.storeRx_ctrlStrict (i : Nat) (b : Byte) : (s.storeRx i b).ctrlStrict = s.ctrlStrict := rfl
@[simp] theorem State.storeRx_dataIn (i : Nat) (b : Byte) : (s.storeRx i b).dataIn = s.dataIn := rfl
@[simp] theorem State.storeRx_addrIn (i : Nat) (b : Byte) : (s.storeRx i b).addrIn = s.addrIn := rfl
@[simp] theorem State.storeRx_clsIn (i : Nat) (b : Byte) : (s.storeRx i b).clsIn = s.clsIn := rfl
@[simp] theorem State.storeRx_crc (i : Nat) (b : Byte) : (s.storeRx i b).crc = s.crc := rfl
@[simp] theorem State.storeRx_rxCapacity (i : Nat) (b : Byte) : (s.storeRx i b).rxCapacity = s.rxCapacity := rfl
@[simp] theorem State.storeRx_rxbuf (i : Nat) (b : Byte) : (s.storeRx i b).rxbuf = s.rxbuf.write i b := rfl
@[simp] theorem State.storeRx_rxlen (i : Nat) (b : Byte) : (s.storeRx i b).rxlen = s.rxlen := rfl
@[simp] theorem State.storeRx_rxOvf (i : Nat) (b : Byte) : (s.storeRx i b).rxOvf = s.rxOvf := rfl
@[simp] theorem State.storeRx_txbuf (i : Nat) (b : Byte) : (s.storeRx i b).txbuf = s.txbuf := rfl
@[simp] theorem State.storeRx_txlen (i : Nat) (b : Byte) : (s.storeRx i b).txlen = s.txlen := rfl
@[simp] theorem State.storeRx_txValid (i : Nat) (b : Byte) : (s.storeRx i b).txValid = s.txValid := rfl
@[simp] theorem State.storeRx_err (i : Nat) (b : Byte) : (s.storeRx i b).err = s.err := rfl
@[simp] theorem State.storeRx_parsed (i : Nat) (b : Byte) : (s.storeRx i b).parsed = s.parsed := rfl
@[simp] theorem State.storeRx_measValid (i : Nat) (b : Byte) : (s.storeRx i b).measValid = s.measValid := rfl
@[simp] theorem State.storeRx_illegal (i : Nat) (b : Byte) : (s.storeRx i b).illegal = s.illegal := rfl
@[simp] theorem State.storeRx_diag0 (i : Nat) (b : Byte) : (s.storeRx i b).diag0 = s.diag0 := rfl
@[simp] theorem State.storeRx_diag1 (i : Nat) (b : Byte) : (s.storeRx i b).diag1 = s.diag1 := rfl
@[simp] theorem State.storeRx_meas (i : Nat) (b : Byte) : (s.storeRx i b).meas = s.meas := rfl
@[simp] theorem State.storeRx_diClass (i : Nat) (b : Byte) : (s.storeRx i b).diClass = s.diClass := rfl
@[simp] theorem State.storeRx_hsClass (i : Nat) (b : Byte) : (s.storeRx i b).hsClass = s.hsClass := rfl
@[simp] theorem State.storeRx_pending (i : Nat) (b : Byte) : (s.storeRx i b).pending = s.pending := rfl
@[simp] theorem State.storeRx_reads (i : Nat) (b : Byte) : (s.storeRx i b).reads = s.reads := rfl

/-! ### setRxlen -/

@[simp] theorem State.setRxlen_ctrlStrict (n : Nat) : (s.setRxlen n).ctrlStrict = s.ctrlStrict := rfl
@[simp] theorem State.setRxlen_dataIn (n : Nat) : (s.setRxlen n).dataIn = s.dataIn := rfl
@[simp] theorem State.setRxlen_addrIn (n : Nat) : (s.setRxlen n).addrIn = s.addrIn := rfl
@[simp] theorem State.setRxlen_clsIn (n : Nat) : (s.setRxlen n).clsIn = s.clsIn := rfl
@[simp] theorem State.setRxlen_crc (n : Nat) : (s.setRxlen n).crc = s.crc := rfl
@[simp] theorem State.setRxlen_rxCapacity (n : Nat) : (s.setRxlen n).rxCapacity = s.rxCapacity := rfl
@[simp] theorem State.setRxlen_rxbuf (n : Nat) : (s.setRxlen n).rxbuf = s.rxbuf := rfl
@[simp] theorem State.setRxlen_rxlen (n : Nat) : (s.setRxlen n).rxlen = n := rfl
@[simp] theorem State.setRxlen_rxOvf (n : Nat) : (s.setRxlen n).rxOvf = s.rxOvf := rfl
@[simp] theorem State.setRxlen_txbuf (n : Nat) : (s.setRxlen n).txbuf = s.txbuf := rfl
@[simp] theorem State.setRxlen_txlen (n : Nat) : (s.setRxlen n).txlen = s.txlen := rfl
@[simp] theorem State.setRxlen_txValid (n : Nat) : (s.setRxlen n).txValid = s.txValid := rfl
@[simp] theorem State.setRxlen_err (n : Nat) : (s.setRxlen n).err = s.err := rfl
@[simp] theorem State.setRxlen_parsed (n : Nat) : (s.setRxlen n).parsed = s.parsed := rfl
@[simp] theorem State.setRxlen_measValid (n : Nat) : (s.setRxlen n).measValid = s.measValid := rfl
@[simp] theorem State.setRxlen_illegal (n : Nat) : (s.setRxlen n).illegal = s.illegal := rfl
@[simp] theorem State.setRxlen_diag0 (n : Nat) : (s.setRxlen n).diag0 = s.diag0 := rfl
@[simp] theorem State.setRxlen_diag1 (n : Nat) : (s.setRxlen n).diag1 = s.diag1 := rfl
@[simp] theorem State.setRxlen_meas (n : Nat) : (s.setRxlen n).meas = s.meas := rfl
@[simp] theorem State.setRxlen_diClass (n : Nat) : (s.setRxlen n).diClass = s.diClass := rfl
@[simp] theorem State.setRxlen_hsClass (n : Nat) : (s.setRxlen n).hsClass = s.hsClass := rfl
@[simp] theorem State.setRxlen_pending (n : Nat) : (s.setRxlen n).pending = s.pending := rfl
@[simp] theorem State.setRxlen_reads (n : Nat) : (s.setRxlen n).reads = s.reads := rfl

/-! ### setTx -/

@[simp] theorem State.setTx_ctrlStrict (f : Vector Byte 9) : (s.setTx f).ctrlStrict = s.ctrlStrict := rfl
@[simp] theorem State.setTx_dataIn (f : Vector Byte 9) : (s.setTx f).dataIn = s.dataIn := rfl
@[simp] theorem State.setTx_addrIn (f : Vector Byte 9) : (s.setTx f).addrIn = s.addrIn := rfl
@[simp] theorem State.setTx_clsIn (f : Vector Byte 9) : (s.setTx f).clsIn = s.clsIn := rfl
@[simp] theorem State.setTx_crc (f : Vector Byte 9) : (s.setTx f).crc = s.crc := rfl
@[simp] theorem State.setTx_rxCapacity (f : Vector Byte 9) : (s.setTx f).rxCapacity = s.rxCapacity := rfl
@[simp] theorem State.setTx_rxbuf (f : Vector Byte 9) : (s.setTx f).rxbuf = s.rxbuf := rfl
@[simp] theorem State.setTx_rxlen (f : Vector Byte 9) : (s.setTx f).rxlen = s.rxlen := rfl
@[simp] theorem State.setTx_rxOvf (f : Vector Byte 9) : (s.setTx f).rxOvf = s.rxOvf := rfl
@[simp] theorem State.setTx_txbuf (f : Vector Byte 9) : (s.setTx f).txbuf = f := rfl
@[simp] theorem State.setTx_txlen (f : Vector Byte 9) : (s.setTx f).txlen = 9 := rfl
@[simp] theorem State.setTx_txValid (f : Vector Byte 9) : (s.setTx f).txValid = s.txValid := rfl
@[simp] theorem State.setTx_err (f : Vector Byte 9) : (s.setTx f).err = s.err := rfl
@[simp] theorem State.setTx_parsed (f : Vector Byte 9) : (s.setTx f).parsed = s.parsed := rfl
@[simp] theorem State.setTx_measValid (f : Vector Byte 9) : (s.setTx f).measValid = s.measValid := rfl
@[simp] theorem State.setTx_illegal (f : Vector Byte 9) : (s.setTx f).illegal = s.illegal := rfl
@[simp] theorem State.setTx_diag0 (f : Vector Byte 9) : (s.setTx f).diag0 = s.diag0 := rfl
@[simp] theorem State.setTx_diag1 (f : Vector Byte 9) : (s.setTx f).diag1 = s.diag1 := rfl
@[simp] theorem State.setTx_meas (f : Vector Byte 9) : (s.setTx f).meas = s.meas := rfl
@[simp] theorem State.setTx_diClass (f : Vector Byte 9) : (s.setTx f).diClass = s.diClass := rfl
@[simp] theorem State.setTx_hsClass (f : Vector Byte 9) : (s.setTx f).hsClass = s.hsClass := rfl
@[simp] theorem State.setTx_pending (f : Vector Byte 9) : (s.setTx f).pending = s.pending := rfl
@[simp] theorem State.setTx_reads (f : Vector Byte 9) : (s.setTx f).reads = s.reads := rfl

/-! ### setMeas -/

@[simp] theorem State.setMeas_ctrlStrict (m : Measurement) : (s.setMeas m).ctrlStrict = s.ctrlStrict := rfl
@[simp] theorem State.setMeas_dataIn (m : Measurement) : (s.setMeas m).dataIn = s.dataIn := rfl
@[simp] theorem State.setMeas_addrIn (m : Measurement) : (s.setMeas m).addrIn = s.addrIn := rfl
@[simp] theorem State.setMeas_clsIn (m : Measurement) : (s.setMeas m).clsIn = s.clsIn := rfl
@[simp] theorem State.setMeas_crc (m : Measurement) : (s.setMeas m).crc = s.crc := rfl
@[simp] theorem State.setMeas_rxCapacity (m : Measurement) : (s.setMeas m).rxCapacity = s.rxCapacity := rfl
@[simp] theorem State.setMeas_rxbuf (m : Measurement) : (s.setMeas m).rxbuf = s.rxbuf := rfl
@[simp] theorem State.setMeas_rxlen (m : Measurement) : (s.setMeas m).rxlen = s.rxlen := rfl
@[simp] theorem State.setMeas_rxOvf (m : Measurement) : (s.setMeas m).rxOvf = s.rxOvf := rfl
@[simp] theorem State.setMeas_txbuf (m : Measurement) : (s.setMeas m).txbuf = s.txbuf := rfl
@[simp] theorem State.setMeas_txlen (m : Measurement) : (s.setMeas m).txlen = s.txlen := rfl
@[simp] theorem State.setMeas_txValid (m : Measurement) : (s.setMeas m).txValid = s.txValid := rfl
@[simp] theorem State.setMeas_err (m : Measurement) : (s.setMeas m).err = s.err := rfl
@[simp] theorem State.setMeas_parsed (m : Measurement) : (s.setMeas m).parsed = s.parsed := rfl
@[simp] theorem State.setMeas_measValid (m : Measurement) : (s.setMeas m).measValid = s.measValid := rfl
@[simp] theorem State.setMeas_illegal (m : Measurement) : (s.setMeas m).illegal = s.illegal := rfl
@[simp] theorem State.setMeas_diag0 (m : Measurement) : (s.setMeas m).diag0 = s.diag0 := rfl
@[simp] theorem State.setMeas_diag1 (m : Measurement) : (s.setMeas m).diag1 = s.diag1 := rfl
@[simp] theorem State.setMeas_meas (m : Measurement) : (s.setMeas m).meas = m := rfl
@[simp] theorem State.setMeas_diClass (m : Measurement) : (s.setMeas m).diClass = s.diClass := rfl
@[simp] theorem State.setMeas_hsClass (m : Measurement) : (s.setMeas m).hsClass = s.hsClass := rfl
@[simp] theorem State.setMeas_pending (m : Measurement) : (s.setMeas m).pending = s.pending := rfl
@[simp] theorem State.setMeas_reads (m : Measurement) : (s.setMeas m).reads = s.reads := rfl

/-! ### setDiClass -/

@[simp] theorem State.setDiClass_ctrlStrict (c : BitVec 3) : (s.setDiClass c).ctrlStrict = s.ctrlStrict := rfl
@[simp] theorem State.setDiClass_dataIn (c : BitVec 3) : (s.setDiClass c).dataIn = s.dataIn := rfl
@[simp] theorem State.setDiClass_addrIn (c : BitVec 3) : (s.setDiClass c).addrIn = s.addrIn := rfl
@[simp] theorem State.setDiClass_clsIn (c : BitVec 3) : (s.setDiClass c).clsIn = s.clsIn := rfl
@[simp] theorem State.setDiClass_crc (c : BitVec 3) : (s.setDiClass c).crc = s.crc := rfl
@[simp] theorem State.setDiClass_rxCapacity (c : BitVec 3) : (s.setDiClass c).rxCapacity = s.rxCapacity := rfl
@[simp] theorem State.setDiClass_rxbuf (c : BitVec 3) : (s.setDiClass c).rxbuf = s.rxbuf := rfl
@[simp] theorem State.setDiClass_rxlen (c : BitVec 3) : (s.setDiClass c).rxlen = s.rxlen := rfl
@[simp] theorem State.setDiClass_rxOvf (c : BitVec 3) : (s.setDiClass c).rxOvf = s.rxOvf := rfl
@[simp] theorem State.setDiClass_txbuf (c : BitVec 3) : (s.setDiClass c).txbuf = s.txbuf := rfl
@[simp] theorem State.setDiClass_txlen (c : BitVec 3) : (s.setDiClass c).txlen = s.txlen := rfl
@[simp] theorem State.setDiClass_txValid (c : BitVec 3) : (s.setDiClass c).txValid = s.txValid := rfl
@[simp] theorem State.setDiClass_err (c : BitVec 3) : (s.setDiClass c).err = s.err := rfl
@[simp] theorem State.setDiClass_parsed (c : BitVec 3) : (s.setDiClass c).parsed = s.parsed := rfl
@[simp] theorem State.setDiClass_measValid (c : BitVec 3) : (s.setDiClass c).measValid = s.measValid := rfl
@[simp] theorem State.setDiClass_illegal (c : BitVec 3) : (s.setDiClass c).illegal = s.illegal := rfl
@[simp] theorem State.setDiClass_diag0 (c : BitVec 3) : (s.setDiClass c).diag0 = s.diag0 := rfl
@[simp] theorem State.setDiClass_diag1 (c : BitVec 3) : (s.setDiClass c).diag1 = s.diag1 := rfl
@[simp] theorem State.setDiClass_meas (c : BitVec 3) : (s.setDiClass c).meas = s.meas := rfl
@[simp] theorem State.setDiClass_diClass (c : BitVec 3) : (s.setDiClass c).diClass = c := rfl
@[simp] theorem State.setDiClass_hsClass (c : BitVec 3) : (s.setDiClass c).hsClass = s.hsClass := rfl
@[simp] theorem State.setDiClass_pending (c : BitVec 3) : (s.setDiClass c).pending = s.pending := rfl
@[simp] theorem State.setDiClass_reads (c : BitVec 3) : (s.setDiClass c).reads = s.reads := rfl

/-! ### setHsClass -/

@[simp] theorem State.setHsClass_ctrlStrict (c : BitVec 3) : (s.setHsClass c).ctrlStrict = s.ctrlStrict := rfl
@[simp] theorem State.setHsClass_dataIn (c : BitVec 3) : (s.setHsClass c).dataIn = s.dataIn := rfl
@[simp] theorem State.setHsClass_addrIn (c : BitVec 3) : (s.setHsClass c).addrIn = s.addrIn := rfl
@[simp] theorem State.setHsClass_clsIn (c : BitVec 3) : (s.setHsClass c).clsIn = s.clsIn := rfl
@[simp] theorem State.setHsClass_crc (c : BitVec 3) : (s.setHsClass c).crc = s.crc := rfl
@[simp] theorem State.setHsClass_rxCapacity (c : BitVec 3) : (s.setHsClass c).rxCapacity = s.rxCapacity := rfl
@[simp] theorem State.setHsClass_rxbuf (c : BitVec 3) : (s.setHsClass c).rxbuf = s.rxbuf := rfl
@[simp] theorem State.setHsClass_rxlen (c : BitVec 3) : (s.setHsClass c).rxlen = s.rxlen := rfl
@[simp] theorem State.setHsClass_rxOvf (c : BitVec 3) : (s.setHsClass c).rxOvf = s.rxOvf := rfl
@[simp] theorem State.setHsClass_txbuf (c : BitVec 3) : (s.setHsClass c).txbuf = s.txbuf := rfl
@[simp] theorem State.setHsClass_txlen (c : BitVec 3) : (s.setHsClass c).txlen = s.txlen := rfl
@[simp] theorem State.setHsClass_txValid (c : BitVec 3) : (s.setHsClass c).txValid = s.txValid := rfl
@[simp] theorem State.setHsClass_err (c : BitVec 3) : (s.setHsClass c).err = s.err := rfl
@[simp] theorem State.setHsClass_parsed (c : BitVec 3) : (s.setHsClass c).parsed = s.parsed := rfl
@[simp] theorem State.setHsClass_measValid (c : BitVec 3) : (s.setHsClass c).measValid = s.measValid := rfl
@[simp] theorem State.setHsClass_illegal (c : BitVec 3) : (s.setHsClass c).illegal = s.illegal := rfl
@[simp] theorem State.setHsClass_diag0 (c : BitVec 3) : (s.setHsClass c).diag0 = s.diag0 := rfl
@[simp] theorem State.setHsClass_diag1 (c : BitVec 3) : (s.setHsClass c).diag1 = s.diag1 := rfl
@[simp] theorem State.setHsClass_meas (c : BitVec 3) : (s.setHsClass c).meas = s.meas := rfl
@[simp] theorem State.setHsClass_diClass (c : BitVec 3) : (s.setHsClass c).diClass = s.diClass := rfl
@[simp] theorem State.setHsClass_hsClass (c : BitVec 3) : (s.setHsClass c).hsClass = c := rfl
@[simp] theorem State.setHsClass_pending (c : BitVec 3) : (s.setHsClass c).pending = s.pending := rfl
@[simp] theorem State.setHsClass_reads (c : BitVec 3) : (s.setHsClass c).reads = s.reads := rfl

/-! ### setCtrl -/

@[simp] theorem State.setCtrl_ctrlStrict (b : Bool) : (s.setCtrl b).ctrlStrict = b := rfl
@[simp] theorem State.setCtrl_dataIn (b : Bool) : (s.setCtrl b).dataIn = s.dataIn := rfl
@[simp] theorem State.setCtrl_addrIn (b : Bool) : (s.setCtrl b).addrIn = s.addrIn := rfl
@[simp] theorem State.setCtrl_clsIn (b : Bool) : (s.setCtrl b).clsIn = s.clsIn := rfl
@[simp] theorem State.setCtrl_crc (b : Bool) : (s.setCtrl b).crc = s.crc := rfl
@[simp] theorem State.setCtrl_rxCapacity (b : Bool) : (s.setCtrl b).rxCapacity = s.rxCapacity := rfl
@[simp] theorem State.setCtrl_rxbuf (b : Bool) : (s.setCtrl b).rxbuf = s.rxbuf := rfl
@[simp] theorem State.setCtrl_rxlen (b : Bool) : (s.setCtrl b).rxlen = s.rxlen := rfl
@[simp] theorem State.setCtrl_rxOvf (b : Bool) : (s.setCtrl b).rxOvf = s.rxOvf := rfl
@[simp] theorem State.setCtrl_txbuf (b : Bool) : (s.setCtrl b).txbuf = s.txbuf := rfl
@[simp] theorem State.setCtrl_txlen (b : Bool) : (s.setCtrl b).txlen = s.txlen := rfl
@[simp] theorem State.setCtrl_txValid (b : Bool) : (s.setCtrl b).txValid = s.txValid := rfl
@[simp] theorem State.setCtrl_err (b : Bool) : (s.setCtrl b).err = s.err := rfl
@[simp] theorem State.setCtrl_parsed (b : Bool) : (s.setCtrl b).parsed = s.parsed := rfl
@[simp] theorem State.setCtrl_measValid (b : Bool) : (s.setCtrl b).measValid = s.measValid := rfl
@[simp] theorem State.setCtrl_illegal (b : Bool) : (s.setCtrl b).illegal = s.illegal := rfl
@[simp] theorem State.setCtrl_diag0 (b : Bool) : (s.setCtrl b).diag0 = s.diag0 := rfl
@[simp] theorem State.setCtrl_diag1 (b : Bool) : (s.setCtrl b).diag1 = s.diag1 := rfl
@[simp] theorem State.setCtrl_meas (b : Bool) : (s.setCtrl b).meas = s.meas := rfl
@[simp] theorem State.setCtrl_diClass (b : Bool) : (s.setCtrl b).diClass = s.diClass := rfl
@[simp] theorem State.setCtrl_hsClass (b : Bool) : (s.setCtrl b).hsClass = s.hsClass := rfl
@[simp] theorem State.setCtrl_pending (b : Bool) : (s.setCtrl b).pending = s.pending := rfl
@[simp] theorem State.setCtrl_reads (b : Bool) : (s.setCtrl b).reads = s.reads := rfl

/-! ### setDataIn -/

@[simp] theorem State.setDataIn_ctrlStrict (b : Byte) : (s.setDataIn b).ctrlStrict = s.ctrlStrict := rfl
@[simp] theorem State.setDataIn_dataIn (b : Byte) : (s.setDataIn b).dataIn = b := rfl
@[simp] theorem State.setDataIn_addrIn (b : Byte) : (s.setDataIn b).addrIn = s.addrIn := rfl
@[simp] theorem State.setDataIn_clsIn (b : Byte) : (s.setDataIn b).clsIn = s.clsIn := rfl
@[simp] theorem State.setDataIn_crc (b : Byte) : (s.setDataIn b).crc = s.crc := rfl
@[simp] theorem State.setDataIn_rxCapacity (b : Byte) : (s.setDataIn b).rxCapacity = s.rxCapacity := rfl
@[simp] theorem State.setDataIn_rxbuf (b : Byte) : (s.setDataIn b).rxbuf = s.rxbuf := rfl
@[simp] theorem State.setDataIn_rxlen (b : Byte) : (s.setDataIn b).rxlen = s.rxlen := rfl
@[simp] theorem State.setDataIn_rxOvf (b : Byte) : (s.setDataIn b).rxOvf = s.rxOvf := rfl
@[simp] theorem State.setDataIn_txbuf (b : Byte) : (s.setDataIn b).txbuf = s.txbuf := rfl
@[simp] theorem State.setDataIn_txlen (b : Byte) : (s.setDataIn b).txlen = s.txlen := rfl
@[simp] theorem State.setDataIn_txValid (b : Byte) : (s.setDataIn b).txValid = s.txValid := rfl
@[simp] theorem State.setDataIn_err (b : Byte) : (s.setDataIn b).err = s.err := rfl
@[simp] theorem State.setDataIn_parsed (b : Byte) : (s.setDataIn b).parsed = s.parsed := rfl
@[simp] theorem State.setDataIn_measValid (b : Byte) : (s.setDataIn b).measValid = s.measValid := rfl
@[simp] theorem State.setDataIn_illegal (b : Byte) : (s.setDataIn b).illegal = s.illegal := rfl
@[simp] theorem State.setDataIn_diag0 (b : Byte) : (s.setDataIn b).diag0 = s.diag0 := rfl
@[simp] theorem State.setDataIn_diag1 (b : Byte) : (s.setDataIn b).diag1 = s.diag1 := rfl
@[simp] theorem State.setDataIn_meas (b : Byte) : (s.setDataIn b).meas = s.meas := rfl
@[simp] theorem State.setDataIn_diClass (b : Byte) : (s.setDataIn b).diClass = s.diClass := rfl
@[simp] theorem State.setDataIn_hsClass (b : Byte) : (s.setDataIn b).hsClass = s.hsClass := rfl
@[simp] theorem State.setDataIn_pending (b : Byte) : (s.setDataIn b).pending = s.pending := rfl
@[simp] theorem State.setDataIn_reads (b : Byte) : (s.setDataIn b).reads = s.reads := rfl

/-! ### setAddrIn -/

@[simp] theorem State.setAddrIn_ctrlStrict (a : Half) : (s.setAddrIn a).ctrlStrict = s.ctrlStrict := rfl
@[simp] theorem State.setAddrIn_dataIn (a : Half) : (s.setAddrIn a).dataIn = s.dataIn := rfl
@[simp] theorem State.setAddrIn_addrIn (a : Half) : (s.setAddrIn a).addrIn = a := rfl
@[simp] theorem State.setAddrIn_clsIn (a : Half) : (s.setAddrIn a).clsIn = s.clsIn := rfl
@[simp] theorem State.setAddrIn_crc (a : Half) : (s.setAddrIn a).crc = s.crc := rfl
@[simp] theorem State.setAddrIn_rxCapacity (a : Half) : (s.setAddrIn a).rxCapacity = s.rxCapacity := rfl
@[simp] theorem State.setAddrIn_rxbuf (a : Half) : (s.setAddrIn a).rxbuf = s.rxbuf := rfl
@[simp] theorem State.setAddrIn_rxlen (a : Half) : (s.setAddrIn a).rxlen = s.rxlen := rfl
@[simp] theorem State.setAddrIn_rxOvf (a : Half) : (s.setAddrIn a).rxOvf = s.rxOvf := rfl
@[simp] theorem State.setAddrIn_txbuf (a : Half) : (s.setAddrIn a).txbuf = s.txbuf := rfl
@[simp] theorem State.setAddrIn_txlen (a : Half) : (s.setAddrIn a).txlen = s.txlen := rfl
@[simp] theorem State.setAddrIn_txValid (a : Half) : (s.setAddrIn a).txValid = s.txValid := rfl
@[simp] theorem State.setAddrIn_err (a : Half) : (s.setAddrIn a).err = s.err := rfl
@[simp] theorem State.setAddrIn_parsed (a : Half) : (s.setAddrIn a).parsed = s.parsed := rfl
@[simp] theorem State.setAddrIn_measValid (a : Half) : (s.setAddrIn a).measValid = s.measValid := rfl
@[simp] theorem State.setAddrIn_illegal (a : Half) : (s.setAddrIn a).illegal = s.illegal := rfl
@[simp] theorem State.setAddrIn_diag0 (a : Half) : (s.setAddrIn a).diag0 = s.diag0 := rfl
@[simp] theorem State.setAddrIn_diag1 (a : Half) : (s.setAddrIn a).diag1 = s.diag1 := rfl
@[simp] theorem State.setAddrIn_meas (a : Half) : (s.setAddrIn a).meas = s.meas := rfl
@[simp] theorem State.setAddrIn_diClass (a : Half) : (s.setAddrIn a).diClass = s.diClass := rfl
@[simp] theorem State.setAddrIn_hsClass (a : Half) : (s.setAddrIn a).hsClass = s.hsClass := rfl
@[simp] theorem State.setAddrIn_pending (a : Half) : (s.setAddrIn a).pending = s.pending := rfl
@[simp] theorem State.setAddrIn_reads (a : Half) : (s.setAddrIn a).reads = s.reads := rfl

/-! ### setClsIn -/

@[simp] theorem State.setClsIn_ctrlStrict (v : Half) : (s.setClsIn v).ctrlStrict = s.ctrlStrict := rfl
@[simp] theorem State.setClsIn_dataIn (v : Half) : (s.setClsIn v).dataIn = s.dataIn := rfl
@[simp] theorem State.setClsIn_addrIn (v : Half) : (s.setClsIn v).addrIn = s.addrIn := rfl
@[simp] theorem State.setClsIn_clsIn (v : Half) : (s.setClsIn v).clsIn = v := rfl
@[simp] theorem State.setClsIn_crc (v : Half) : (s.setClsIn v).crc = s.crc := rfl
@[simp] theorem State.setClsIn_rxCapacity (v : Half) : (s.setClsIn v).rxCapacity = s.rxCapacity := rfl
@[simp] theorem State.setClsIn_rxbuf (v : Half) : (s.setClsIn v).rxbuf = s.rxbuf := rfl
@[simp] theorem State.setClsIn_rxlen (v : Half) : (s.setClsIn v).rxlen = s.rxlen := rfl
@[simp] theorem State.setClsIn_rxOvf (v : Half) : (s.setClsIn v).rxOvf = s.rxOvf := rfl
@[simp] theorem State.setClsIn_txbuf (v : Half) : (s.setClsIn v).txbuf = s.txbuf := rfl
@[simp] theorem State.setClsIn_txlen (v : Half) : (s.setClsIn v).txlen = s.txlen := rfl
@[simp] theorem State.setClsIn_txValid (v : Half) : (s.setClsIn v).txValid = s.txValid := rfl
@[simp] theorem State.setClsIn_err (v : Half) : (s.setClsIn v).err = s.err := rfl
@[simp] theorem State.setClsIn_parsed (v : Half) : (s.setClsIn v).parsed = s.parsed := rfl
@[simp] theorem State.setClsIn_measValid (v : Half) : (s.setClsIn v).measValid = s.measValid := rfl
@[simp] theorem State.setClsIn_illegal (v : Half) : (s.setClsIn v).illegal = s.illegal := rfl
@[simp] theorem State.setClsIn_diag0 (v : Half) : (s.setClsIn v).diag0 = s.diag0 := rfl
@[simp] theorem State.setClsIn_diag1 (v : Half) : (s.setClsIn v).diag1 = s.diag1 := rfl
@[simp] theorem State.setClsIn_meas (v : Half) : (s.setClsIn v).meas = s.meas := rfl
@[simp] theorem State.setClsIn_diClass (v : Half) : (s.setClsIn v).diClass = s.diClass := rfl
@[simp] theorem State.setClsIn_hsClass (v : Half) : (s.setClsIn v).hsClass = s.hsClass := rfl
@[simp] theorem State.setClsIn_pending (v : Half) : (s.setClsIn v).pending = s.pending := rfl
@[simp] theorem State.setClsIn_reads (v : Half) : (s.setClsIn v).reads = s.reads := rfl

/-! ### setOutcome -/

@[simp] theorem State.setOutcome_ctrlStrict (k : BitVec 3) (a b : Nat) : (s.setOutcome k a b).ctrlStrict = s.ctrlStrict := rfl
@[simp] theorem State.setOutcome_dataIn (k : BitVec 3) (a b : Nat) : (s.setOutcome k a b).dataIn = s.dataIn := rfl
@[simp] theorem State.setOutcome_addrIn (k : BitVec 3) (a b : Nat) : (s.setOutcome k a b).addrIn = s.addrIn := rfl
@[simp] theorem State.setOutcome_clsIn (k : BitVec 3) (a b : Nat) : (s.setOutcome k a b).clsIn = s.clsIn := rfl
@[simp] theorem State.setOutcome_crc (k : BitVec 3) (a b : Nat) : (s.setOutcome k a b).crc = s.crc := rfl
@[simp] theorem State.setOutcome_rxCapacity (k : BitVec 3) (a b : Nat) : (s.setOutcome k a b).rxCapacity = s.rxCapacity := rfl
@[simp] theorem State.setOutcome_rxbuf (k : BitVec 3) (a b : Nat) : (s.setOutcome k a b).rxbuf = s.rxbuf := rfl
@[simp] theorem State.setOutcome_rxlen (k : BitVec 3) (a b : Nat) : (s.setOutcome k a b).rxlen = s.rxlen := rfl
@[simp] theorem State.setOutcome_rxOvf (k : BitVec 3) (a b : Nat) : (s.setOutcome k a b).rxOvf = s.rxOvf := rfl
@[simp] theorem State.setOutcome_txbuf (k : BitVec 3) (a b : Nat) : (s.setOutcome k a b).txbuf = s.txbuf := rfl
@[simp] theorem State.setOutcome_txlen (k : BitVec 3) (a b : Nat) : (s.setOutcome k a b).txlen = s.txlen := rfl
@[simp] theorem State.setOutcome_txValid (k : BitVec 3) (a b : Nat) : (s.setOutcome k a b).txValid = s.txValid := rfl
@[simp] theorem State.setOutcome_err (k : BitVec 3) (a b : Nat) : (s.setOutcome k a b).err = k := rfl
@[simp] theorem State.setOutcome_parsed (k : BitVec 3) (a b : Nat) : (s.setOutcome k a b).parsed = s.parsed := rfl
@[simp] theorem State.setOutcome_measValid (k : BitVec 3) (a b : Nat) : (s.setOutcome k a b).measValid = s.measValid := rfl
@[simp] theorem State.setOutcome_illegal (k : BitVec 3) (a b : Nat) : (s.setOutcome k a b).illegal = s.illegal := rfl
@[simp] theorem State.setOutcome_diag0 (k : BitVec 3) (a b : Nat) : (s.setOutcome k a b).diag0 = BitVec.ofNat 32 a := rfl
@[simp] theorem State.setOutcome_diag1 (k : BitVec 3) (a b : Nat) : (s.setOutcome k a b).diag1 = BitVec.ofNat 32 b := rfl
@[simp] theorem State.setOutcome_meas (k : BitVec 3) (a b : Nat) : (s.setOutcome k a b).meas = s.meas := rfl
@[simp] theorem State.setOutcome_diClass (k : BitVec 3) (a b : Nat) : (s.setOutcome k a b).diClass = s.diClass := rfl
@[simp] theorem State.setOutcome_hsClass (k : BitVec 3) (a b : Nat) : (s.setOutcome k a b).hsClass = s.hsClass := rfl
@[simp] theorem State.setOutcome_pending (k : BitVec 3) (a b : Nat) : (s.setOutcome k a b).pending = s.pending := rfl
@[simp] theorem State.setOutcome_reads (k : BitVec 3) (a b : Nat) : (s.setOutcome k a b).reads = s.reads := rfl

/-! ### setPending -/

@[simp] theorem State.setPending_ctrlStrict (es : List Event) : (s.setPending es).ctrlStrict = s.ctrlStrict := rfl
@[simp] theorem State.setPending_dataIn (es : List Event) : (s.setPending es).dataIn = s.dataIn := rfl
@[simp] theorem State.setPending_addrIn (es : List Event) : (s.setPending es).addrIn = s.addrIn := rfl
@[simp] theorem State.setPending_clsIn (es : List Event) : (s.setPending es).clsIn = s.clsIn := rfl
@[simp] theorem State.setPending_crc (es : List Event) : (s.setPending es).crc = s.crc := rfl
@[simp] theorem State.setPending_rxCapacity (es : List Event) : (s.setPending es).rxCapacity = s.rxCapacity := rfl
@[simp] theorem State.setPending_rxbuf (es : List Event) : (s.setPending es).rxbuf = s.rxbuf := rfl
@[simp] theorem State.setPending_rxlen (es : List Event) : (s.setPending es).rxlen = s.rxlen := rfl
@[simp] theorem State.setPending_rxOvf (es : List Event) : (s.setPending es).rxOvf = s.rxOvf := rfl
@[simp] theorem State.setPending_txbuf (es : List Event) : (s.setPending es).txbuf = s.txbuf := rfl
@[simp] theorem State.setPending_txlen (es : List Event) : (s.setPending es).txlen = s.txlen := rfl
@[simp] theorem State.setPending_txValid (es : List Event) : (s.setPending es).txValid = s.txValid := rfl
@[simp] theorem State.setPending_err (es : List Event) : (s.setPending es).err = s.err := rfl
@[simp] theorem State.setPending_parsed (es : List Event) : (s.setPending es).parsed = s.parsed := rfl
@[simp] theorem State.setPending_measValid (es : List Event) : (s.setPending es).measValid = s.measValid := rfl
@[simp] theorem State.setPending_illegal (es : List Event) : (s.setPending es).illegal = s.illegal := rfl
@[simp] theorem State.setPending_diag0 (es : List Event) : (s.setPending es).diag0 = s.diag0 := rfl
@[simp] theorem State.setPending_diag1 (es : List Event) : (s.setPending es).diag1 = s.diag1 := rfl
@[simp] theorem State.setPending_meas (es : List Event) : (s.setPending es).meas = s.meas := rfl
@[simp] theorem State.setPending_diClass (es : List Event) : (s.setPending es).diClass = s.diClass := rfl
@[simp] theorem State.setPending_hsClass (es : List Event) : (s.setPending es).hsClass = s.hsClass := rfl
@[simp] theorem State.setPending_pending (es : List Event) : (s.setPending es).pending = es := rfl
@[simp] theorem State.setPending_reads (es : List Event) : (s.setPending es).reads = s.reads := rfl

/-! ### answer -/

@[simp] theorem State.answer_ctrlStrict (v : Word) : (s.answer v).ctrlStrict = s.ctrlStrict := rfl
@[simp] theorem State.answer_dataIn (v : Word) : (s.answer v).dataIn = s.dataIn := rfl
@[simp] theorem State.answer_addrIn (v : Word) : (s.answer v).addrIn = s.addrIn := rfl
@[simp] theorem State.answer_clsIn (v : Word) : (s.answer v).clsIn = s.clsIn := rfl
@[simp] theorem State.answer_crc (v : Word) : (s.answer v).crc = s.crc := rfl
@[simp] theorem State.answer_rxCapacity (v : Word) : (s.answer v).rxCapacity = s.rxCapacity := rfl
@[simp] theorem State.answer_rxbuf (v : Word) : (s.answer v).rxbuf = s.rxbuf := rfl
@[simp] theorem State.answer_rxlen (v : Word) : (s.answer v).rxlen = s.rxlen := rfl
@[simp] theorem State.answer_rxOvf (v : Word) : (s.answer v).rxOvf = s.rxOvf := rfl
@[simp] theorem State.answer_txbuf (v : Word) : (s.answer v).txbuf = s.txbuf := rfl
@[simp] theorem State.answer_txlen (v : Word) : (s.answer v).txlen = s.txlen := rfl
@[simp] theorem State.answer_txValid (v : Word) : (s.answer v).txValid = s.txValid := rfl
@[simp] theorem State.answer_err (v : Word) : (s.answer v).err = s.err := rfl
@[simp] theorem State.answer_parsed (v : Word) : (s.answer v).parsed = s.parsed := rfl
@[simp] theorem State.answer_measValid (v : Word) : (s.answer v).measValid = s.measValid := rfl
@[simp] theorem State.answer_illegal (v : Word) : (s.answer v).illegal = s.illegal := rfl
@[simp] theorem State.answer_diag0 (v : Word) : (s.answer v).diag0 = s.diag0 := rfl
@[simp] theorem State.answer_diag1 (v : Word) : (s.answer v).diag1 = s.diag1 := rfl
@[simp] theorem State.answer_meas (v : Word) : (s.answer v).meas = s.meas := rfl
@[simp] theorem State.answer_diClass (v : Word) : (s.answer v).diClass = s.diClass := rfl
@[simp] theorem State.answer_hsClass (v : Word) : (s.answer v).hsClass = s.hsClass := rfl
@[simp] theorem State.answer_pending (v : Word) : (s.answer v).pending = s.pending := rfl
@[simp] theorem State.answer_reads (v : Word) : (s.answer v).reads = s.reads ++ [v] := rfl

/-! ### markLegal -/

@[simp] theorem State.markLegal_ctrlStrict : s.markLegal.ctrlStrict = s.ctrlStrict := rfl
@[simp] theorem State.markLegal_dataIn : s.markLegal.dataIn = s.dataIn := rfl
@[simp] theorem State.markLegal_addrIn : s.markLegal.addrIn = s.addrIn := rfl
@[simp] theorem State.markLegal_clsIn : s.markLegal.clsIn = s.clsIn := rfl
@[simp] theorem State.markLegal_crc : s.markLegal.crc = s.crc := rfl
@[simp] theorem State.markLegal_rxCapacity : s.markLegal.rxCapacity = s.rxCapacity := rfl
@[simp] theorem State.markLegal_rxbuf : s.markLegal.rxbuf = s.rxbuf := rfl
@[simp] theorem State.markLegal_rxlen : s.markLegal.rxlen = s.rxlen := rfl
@[simp] theorem State.markLegal_rxOvf : s.markLegal.rxOvf = s.rxOvf := rfl
@[simp] theorem State.markLegal_txbuf : s.markLegal.txbuf = s.txbuf := rfl
@[simp] theorem State.markLegal_txlen : s.markLegal.txlen = s.txlen := rfl
@[simp] theorem State.markLegal_txValid : s.markLegal.txValid = s.txValid := rfl
@[simp] theorem State.markLegal_err : s.markLegal.err = s.err := rfl
@[simp] theorem State.markLegal_parsed : s.markLegal.parsed = s.parsed := rfl
@[simp] theorem State.markLegal_measValid : s.markLegal.measValid = s.measValid := rfl
@[simp] theorem State.markLegal_illegal : s.markLegal.illegal = false := rfl
@[simp] theorem State.markLegal_diag0 : s.markLegal.diag0 = s.diag0 := rfl
@[simp] theorem State.markLegal_diag1 : s.markLegal.diag1 = s.diag1 := rfl
@[simp] theorem State.markLegal_meas : s.markLegal.meas = s.meas := rfl
@[simp] theorem State.markLegal_diClass : s.markLegal.diClass = s.diClass := rfl
@[simp] theorem State.markLegal_hsClass : s.markLegal.hsClass = s.hsClass := rfl
@[simp] theorem State.markLegal_pending : s.markLegal.pending = s.pending := rfl
@[simp] theorem State.markLegal_reads : s.markLegal.reads = s.reads := rfl

/-! ### markIllegal -/

@[simp] theorem State.markIllegal_ctrlStrict : s.markIllegal.ctrlStrict = s.ctrlStrict := rfl
@[simp] theorem State.markIllegal_dataIn : s.markIllegal.dataIn = s.dataIn := rfl
@[simp] theorem State.markIllegal_addrIn : s.markIllegal.addrIn = s.addrIn := rfl
@[simp] theorem State.markIllegal_clsIn : s.markIllegal.clsIn = s.clsIn := rfl
@[simp] theorem State.markIllegal_crc : s.markIllegal.crc = s.crc := rfl
@[simp] theorem State.markIllegal_rxCapacity : s.markIllegal.rxCapacity = s.rxCapacity := rfl
@[simp] theorem State.markIllegal_rxbuf : s.markIllegal.rxbuf = s.rxbuf := rfl
@[simp] theorem State.markIllegal_rxlen : s.markIllegal.rxlen = s.rxlen := rfl
@[simp] theorem State.markIllegal_rxOvf : s.markIllegal.rxOvf = s.rxOvf := rfl
@[simp] theorem State.markIllegal_txbuf : s.markIllegal.txbuf = s.txbuf := rfl
@[simp] theorem State.markIllegal_txlen : s.markIllegal.txlen = s.txlen := rfl
@[simp] theorem State.markIllegal_txValid : s.markIllegal.txValid = s.txValid := rfl
@[simp] theorem State.markIllegal_err : s.markIllegal.err = s.err := rfl
@[simp] theorem State.markIllegal_parsed : s.markIllegal.parsed = s.parsed := rfl
@[simp] theorem State.markIllegal_measValid : s.markIllegal.measValid = s.measValid := rfl
@[simp] theorem State.markIllegal_illegal : s.markIllegal.illegal = true := rfl
@[simp] theorem State.markIllegal_diag0 : s.markIllegal.diag0 = s.diag0 := rfl
@[simp] theorem State.markIllegal_diag1 : s.markIllegal.diag1 = s.diag1 := rfl
@[simp] theorem State.markIllegal_meas : s.markIllegal.meas = s.meas := rfl
@[simp] theorem State.markIllegal_diClass : s.markIllegal.diClass = s.diClass := rfl
@[simp] theorem State.markIllegal_hsClass : s.markIllegal.hsClass = s.hsClass := rfl
@[simp] theorem State.markIllegal_pending : s.markIllegal.pending = s.pending := rfl
@[simp] theorem State.markIllegal_reads : s.markIllegal.reads = s.reads := rfl

/-! ### setRxOvf -/

@[simp] theorem State.setRxOvf_ctrlStrict (b : Bool) : (s.setRxOvf b).ctrlStrict = s.ctrlStrict := rfl
@[simp] theorem State.setRxOvf_dataIn (b : Bool) : (s.setRxOvf b).dataIn = s.dataIn := rfl
@[simp] theorem State.setRxOvf_addrIn (b : Bool) : (s.setRxOvf b).addrIn = s.addrIn := rfl
@[simp] theorem State.setRxOvf_clsIn (b : Bool) : (s.setRxOvf b).clsIn = s.clsIn := rfl
@[simp] theorem State.setRxOvf_crc (b : Bool) : (s.setRxOvf b).crc = s.crc := rfl
@[simp] theorem State.setRxOvf_rxCapacity (b : Bool) : (s.setRxOvf b).rxCapacity = s.rxCapacity := rfl
@[simp] theorem State.setRxOvf_rxbuf (b : Bool) : (s.setRxOvf b).rxbuf = s.rxbuf := rfl
@[simp] theorem State.setRxOvf_rxlen (b : Bool) : (s.setRxOvf b).rxlen = s.rxlen := rfl
@[simp] theorem State.setRxOvf_rxOvf (b : Bool) : (s.setRxOvf b).rxOvf = b := rfl
@[simp] theorem State.setRxOvf_txbuf (b : Bool) : (s.setRxOvf b).txbuf = s.txbuf := rfl
@[simp] theorem State.setRxOvf_txlen (b : Bool) : (s.setRxOvf b).txlen = s.txlen := rfl
@[simp] theorem State.setRxOvf_txValid (b : Bool) : (s.setRxOvf b).txValid = s.txValid := rfl
@[simp] theorem State.setRxOvf_err (b : Bool) : (s.setRxOvf b).err = s.err := rfl
@[simp] theorem State.setRxOvf_parsed (b : Bool) : (s.setRxOvf b).parsed = s.parsed := rfl
@[simp] theorem State.setRxOvf_measValid (b : Bool) : (s.setRxOvf b).measValid = s.measValid := rfl
@[simp] theorem State.setRxOvf_illegal (b : Bool) : (s.setRxOvf b).illegal = s.illegal := rfl
@[simp] theorem State.setRxOvf_diag0 (b : Bool) : (s.setRxOvf b).diag0 = s.diag0 := rfl
@[simp] theorem State.setRxOvf_diag1 (b : Bool) : (s.setRxOvf b).diag1 = s.diag1 := rfl
@[simp] theorem State.setRxOvf_meas (b : Bool) : (s.setRxOvf b).meas = s.meas := rfl
@[simp] theorem State.setRxOvf_diClass (b : Bool) : (s.setRxOvf b).diClass = s.diClass := rfl
@[simp] theorem State.setRxOvf_hsClass (b : Bool) : (s.setRxOvf b).hsClass = s.hsClass := rfl
@[simp] theorem State.setRxOvf_pending (b : Bool) : (s.setRxOvf b).pending = s.pending := rfl
@[simp] theorem State.setRxOvf_reads (b : Bool) : (s.setRxOvf b).reads = s.reads := rfl

/-! ### markTxValid -/

@[simp] theorem State.markTxValid_ctrlStrict : s.markTxValid.ctrlStrict = s.ctrlStrict := rfl
@[simp] theorem State.markTxValid_dataIn : s.markTxValid.dataIn = s.dataIn := rfl
@[simp] theorem State.markTxValid_addrIn : s.markTxValid.addrIn = s.addrIn := rfl
@[simp] theorem State.markTxValid_clsIn : s.markTxValid.clsIn = s.clsIn := rfl
@[simp] theorem State.markTxValid_crc : s.markTxValid.crc = s.crc := rfl
@[simp] theorem State.markTxValid_rxCapacity : s.markTxValid.rxCapacity = s.rxCapacity := rfl
@[simp] theorem State.markTxValid_rxbuf : s.markTxValid.rxbuf = s.rxbuf := rfl
@[simp] theorem State.markTxValid_rxlen : s.markTxValid.rxlen = s.rxlen := rfl
@[simp] theorem State.markTxValid_rxOvf : s.markTxValid.rxOvf = s.rxOvf := rfl
@[simp] theorem State.markTxValid_txbuf : s.markTxValid.txbuf = s.txbuf := rfl
@[simp] theorem State.markTxValid_txlen : s.markTxValid.txlen = s.txlen := rfl
@[simp] theorem State.markTxValid_txValid : s.markTxValid.txValid = true := rfl
@[simp] theorem State.markTxValid_err : s.markTxValid.err = s.err := rfl
@[simp] theorem State.markTxValid_parsed : s.markTxValid.parsed = s.parsed := rfl
@[simp] theorem State.markTxValid_measValid : s.markTxValid.measValid = s.measValid := rfl
@[simp] theorem State.markTxValid_illegal : s.markTxValid.illegal = s.illegal := rfl
@[simp] theorem State.markTxValid_diag0 : s.markTxValid.diag0 = s.diag0 := rfl
@[simp] theorem State.markTxValid_diag1 : s.markTxValid.diag1 = s.diag1 := rfl
@[simp] theorem State.markTxValid_meas : s.markTxValid.meas = s.meas := rfl
@[simp] theorem State.markTxValid_diClass : s.markTxValid.diClass = s.diClass := rfl
@[simp] theorem State.markTxValid_hsClass : s.markTxValid.hsClass = s.hsClass := rfl
@[simp] theorem State.markTxValid_pending : s.markTxValid.pending = s.pending := rfl
@[simp] theorem State.markTxValid_reads : s.markTxValid.reads = s.reads := rfl

/-! ### markParsed -/

@[simp] theorem State.markParsed_ctrlStrict : s.markParsed.ctrlStrict = s.ctrlStrict := rfl
@[simp] theorem State.markParsed_dataIn : s.markParsed.dataIn = s.dataIn := rfl
@[simp] theorem State.markParsed_addrIn : s.markParsed.addrIn = s.addrIn := rfl
@[simp] theorem State.markParsed_clsIn : s.markParsed.clsIn = s.clsIn := rfl
@[simp] theorem State.markParsed_crc : s.markParsed.crc = s.crc := rfl
@[simp] theorem State.markParsed_rxCapacity : s.markParsed.rxCapacity = s.rxCapacity := rfl
@[simp] theorem State.markParsed_rxbuf : s.markParsed.rxbuf = s.rxbuf := rfl
@[simp] theorem State.markParsed_rxlen : s.markParsed.rxlen = s.rxlen := rfl
@[simp] theorem State.markParsed_rxOvf : s.markParsed.rxOvf = s.rxOvf := rfl
@[simp] theorem State.markParsed_txbuf : s.markParsed.txbuf = s.txbuf := rfl
@[simp] theorem State.markParsed_txlen : s.markParsed.txlen = s.txlen := rfl
@[simp] theorem State.markParsed_txValid : s.markParsed.txValid = s.txValid := rfl
@[simp] theorem State.markParsed_err : s.markParsed.err = s.err := rfl
@[simp] theorem State.markParsed_parsed : s.markParsed.parsed = true := rfl
@[simp] theorem State.markParsed_measValid : s.markParsed.measValid = s.measValid := rfl
@[simp] theorem State.markParsed_illegal : s.markParsed.illegal = s.illegal := rfl
@[simp] theorem State.markParsed_diag0 : s.markParsed.diag0 = s.diag0 := rfl
@[simp] theorem State.markParsed_diag1 : s.markParsed.diag1 = s.diag1 := rfl
@[simp] theorem State.markParsed_meas : s.markParsed.meas = s.meas := rfl
@[simp] theorem State.markParsed_diClass : s.markParsed.diClass = s.diClass := rfl
@[simp] theorem State.markParsed_hsClass : s.markParsed.hsClass = s.hsClass := rfl
@[simp] theorem State.markParsed_pending : s.markParsed.pending = s.pending := rfl
@[simp] theorem State.markParsed_reads : s.markParsed.reads = s.reads := rfl

/-! ### markMeasValid -/

@[simp] theorem State.markMeasValid_ctrlStrict : s.markMeasValid.ctrlStrict = s.ctrlStrict := rfl
@[simp] theorem State.markMeasValid_dataIn : s.markMeasValid.dataIn = s.dataIn := rfl
@[simp] theorem State.markMeasValid_addrIn : s.markMeasValid.addrIn = s.addrIn := rfl
@[simp] theorem State.markMeasValid_clsIn : s.markMeasValid.clsIn = s.clsIn := rfl
@[simp] theorem State.markMeasValid_crc : s.markMeasValid.crc = s.crc := rfl
@[simp] theorem State.markMeasValid_rxCapacity : s.markMeasValid.rxCapacity = s.rxCapacity := rfl
@[simp] theorem State.markMeasValid_rxbuf : s.markMeasValid.rxbuf = s.rxbuf := rfl
@[simp] theorem State.markMeasValid_rxlen : s.markMeasValid.rxlen = s.rxlen := rfl
@[simp] theorem State.markMeasValid_rxOvf : s.markMeasValid.rxOvf = s.rxOvf := rfl
@[simp] theorem State.markMeasValid_txbuf : s.markMeasValid.txbuf = s.txbuf := rfl
@[simp] theorem State.markMeasValid_txlen : s.markMeasValid.txlen = s.txlen := rfl
@[simp] theorem State.markMeasValid_txValid : s.markMeasValid.txValid = s.txValid := rfl
@[simp] theorem State.markMeasValid_err : s.markMeasValid.err = s.err := rfl
@[simp] theorem State.markMeasValid_parsed : s.markMeasValid.parsed = s.parsed := rfl
@[simp] theorem State.markMeasValid_measValid : s.markMeasValid.measValid = true := rfl
@[simp] theorem State.markMeasValid_illegal : s.markMeasValid.illegal = s.illegal := rfl
@[simp] theorem State.markMeasValid_diag0 : s.markMeasValid.diag0 = s.diag0 := rfl
@[simp] theorem State.markMeasValid_diag1 : s.markMeasValid.diag1 = s.diag1 := rfl
@[simp] theorem State.markMeasValid_meas : s.markMeasValid.meas = s.meas := rfl
@[simp] theorem State.markMeasValid_diClass : s.markMeasValid.diClass = s.diClass := rfl
@[simp] theorem State.markMeasValid_hsClass : s.markMeasValid.hsClass = s.hsClass := rfl
@[simp] theorem State.markMeasValid_pending : s.markMeasValid.pending = s.pending := rfl
@[simp] theorem State.markMeasValid_reads : s.markMeasValid.reads = s.reads := rfl

/-! ### applyReset -/

@[simp] theorem State.applyReset_ctrlStrict : s.applyReset.ctrlStrict = false := rfl
@[simp] theorem State.applyReset_dataIn : s.applyReset.dataIn = 0 := rfl
@[simp] theorem State.applyReset_addrIn : s.applyReset.addrIn = 0 := rfl
@[simp] theorem State.applyReset_clsIn : s.applyReset.clsIn = 0 := rfl
@[simp] theorem State.applyReset_crc : s.applyReset.crc = 0xFFFF := rfl
@[simp] theorem State.applyReset_rxCapacity : s.applyReset.rxCapacity = s.rxCapacity := rfl
@[simp] theorem State.applyReset_rxbuf : s.applyReset.rxbuf = [] := rfl
@[simp] theorem State.applyReset_rxlen : s.applyReset.rxlen = 0 := rfl
@[simp] theorem State.applyReset_rxOvf : s.applyReset.rxOvf = false := rfl
@[simp] theorem State.applyReset_txbuf : s.applyReset.txbuf = Vector.replicate 9 0 := rfl
@[simp] theorem State.applyReset_txlen : s.applyReset.txlen = 0 := rfl
@[simp] theorem State.applyReset_txValid : s.applyReset.txValid = false := rfl
@[simp] theorem State.applyReset_err : s.applyReset.err = 0 := rfl
@[simp] theorem State.applyReset_parsed : s.applyReset.parsed = false := rfl
@[simp] theorem State.applyReset_measValid : s.applyReset.measValid = false := rfl
@[simp] theorem State.applyReset_illegal : s.applyReset.illegal = false := rfl
@[simp] theorem State.applyReset_diag0 : s.applyReset.diag0 = 0 := rfl
@[simp] theorem State.applyReset_diag1 : s.applyReset.diag1 = 0 := rfl
@[simp] theorem State.applyReset_meas : s.applyReset.meas = Measurement.zero := rfl
@[simp] theorem State.applyReset_diClass : s.applyReset.diClass = 7 := rfl
@[simp] theorem State.applyReset_hsClass : s.applyReset.hsClass = 7 := rfl
@[simp] theorem State.applyReset_pending : s.applyReset.pending = s.pending := rfl
@[simp] theorem State.applyReset_reads : s.applyReset.reads = s.reads := rfl

end Sys2Proof.Machine
end

