-- ==== Sys2Proof/Laws/Bytes.lean ====
section
/-! SUPPORT. Byte sequences, the checksum, the request frame and the received frame. -/

namespace Sys2Proof.Machine

/-! ### Little-endian fields -/

/-- `LE16(d, i) = d[i] + 256 * d[i+1]`, the arithmetic form of 00_scope.md R11. -/
theorem le16_toNat (d : List Byte) (i : Nat) :
    (le16 d i).toNat = (byteAt d i).toNat + 256 * (byteAt d (i + 1)).toNat := by
  simp only [le16, BitVec.toNat_append]
  rw [← Nat.shiftLeft_add_eq_or_of_lt (byteAt d i).isLt, Nat.shiftLeft_eq]
  omega

/-- `LE32(d, i)`, the arithmetic form of 00_scope.md R11. -/
theorem le32_toNat (d : List Byte) (i : Nat) :
    (le32 d i).toNat = (byteAt d i).toNat + 2 ^ 8 * (byteAt d (i + 1)).toNat + 2 ^ 16 * (byteAt d (i + 2)).toNat +
      2 ^ 24 * (byteAt d (i + 3)).toNat := by
  simp only [le32, BitVec.toNat_append]
  rw [← Nat.shiftLeft_add_eq_or_of_lt (byteAt d i).isLt, ← Nat.shiftLeft_add_eq_or_of_lt (byteAt d (i + 1)).isLt,
    ← Nat.shiftLeft_add_eq_or_of_lt (byteAt d (i + 2)).isLt]
  simp only [Nat.shiftLeft_eq]
  omega

/-- A u16 is its high byte above its low byte. -/
theorem hi_append_lo (h : Half) : hiByte h ++ loByte h = h := by
  simp only [hiByte, loByte]
  exact BitVec.extractLsb'_append_extractLsb'_eq_extractLsb' (by omega) |>.trans (by simp)

/-! ### The checksum -/

@[simp] theorem crc16_nil : crc16 [] = crcStart := rfl

theorem crc16_append (bs cs : List Byte) : crc16 (bs ++ cs) = cs.foldl crcUpdate (crc16 bs) := by
  simp [crc16]

theorem crc16_concat (bs : List Byte) (b : Byte) : crc16 (bs ++ [b]) = crcUpdate (crc16 bs) b := by
  simp [crc16]

theorem crcShifts_succ (n : Nat) (r : Half) : crcShifts (n + 1) r = crcShifts n (crcShift r) := rfl

/-! ### The request frame -/

/-- The request is its body with the checksum behind it (41_serializer.md R97). -/
theorem buildRequest_toList (a : Half) :
    (buildRequest a).toList = requestBody a ++ [loByte (requestCrc a), hiByte (requestCrc a)] := rfl

/-! ### The received frame -/

@[simp] theorem State.frame_length (s : State) : s.frame.length = s.rxlen := by simp [State.frame]

/-- The frame depends on the store and on RXLEN only. -/
theorem State.frame_congr {s t : State} (hb : t.rxbuf = s.rxbuf) (hn : t.rxlen = s.rxlen) : t.frame = s.frame := by
  simp [State.frame, State.rxByte, hb, hn]

/-- A frame byte is the byte of the store. -/
theorem State.byteAt_frame (s : State) {i : Nat} (h : i < s.rxlen) : byteAt s.frame i = s.rxByte i := by
  simp [byteAt, State.frame, h]

/-- What a store of one byte does to the store's bytes. -/
@[simp] theorem State.rxByte_storeRx (s : State) (i : Nat) (b : Byte) (a : Nat) :
    (s.storeRx i b).rxByte a = if a = i then b else s.rxByte a := by
  by_cases h : a = i <;> simp [State.rxByte, h]

/-- Storing at RXLEN and counting it appends the byte to the frame (42_parser.md R103). -/
theorem State.frame_push (s : State) (b : Byte) :
    ((s.storeRx s.rxlen b).setRxlen (s.rxlen + 1)).frame = s.frame ++ [b] := by
  have hbyte (a : Nat) : ((s.storeRx s.rxlen b).setRxlen (s.rxlen + 1)).rxByte a =
      if a = s.rxlen then b else s.rxByte a := State.rxByte_storeRx s s.rxlen b a
  simp only [State.frame, State.setRxlen_rxlen, List.range_succ, List.map_append, List.map_cons, List.map_nil, hbyte,
    if_true]
  congr 1
  exact List.map_congr_left fun i hi => (hbyte i).trans (if_neg (Nat.ne_of_lt (List.mem_range.mp hi)))

/-- An empty buffer holds the empty frame. -/
theorem State.frame_of_rxlen_zero {s : State} (h : s.rxlen = 0) : s.frame = [] := by simp [State.frame, h]

end Sys2Proof.Machine
end

