-- ==== Sys2Proof/Laws/RegMap.lean ====
section
/-! SUPPORT. The register window: offsets name registers one to one, and a write stores only where it may. -/

namespace Sys2Proof.Machine

/-- Every register is in the list of R20. -/
theorem RegName.mem_all (r : RegName) : r ∈ RegName.all := by cases r <;> decide

/-- The offset of a register names it. -/
@[simp] theorem regAt_offset (r : RegName) : regAt r.offset = some r := by cases r <;> decide

/-- An offset names a register exactly when it is that register's offset (20_memory.md R65). -/
theorem regAt_eq_some {off : Byte} {r : RegName} : regAt off = some r ↔ off = r.offset := by
  refine ⟨fun h => ?_, fun h => h ▸ regAt_offset r⟩
  simp only [regAt] at h
  split at h
  · cases h
  · have := List.find?_some h
    exact (beq_iff_eq.mp this).symm

/-- An offset names no register exactly when it is no register's offset. -/
theorem regAt_eq_none {off : Byte} : regAt off = none ↔ ∀ r : RegName, r.offset ≠ off := by
  refine ⟨fun h r hr => by simp [← hr] at h, fun h => ?_⟩
  cases hr : regAt off with
  | none => rfl
  | some r => exact absurd (regAt_eq_some.mp hr).symm (h r)

/-- Every register's offset is a multiple of 4 (20_memory.md R64). -/
theorem RegName.offset_aligned (r : RegName) : r.offset.toNat % 4 = 0 := by cases r <;> decide

@[simp] theorem readValue_offset (s : State) (r : RegName) : readValue s r.offset = readReg s r := by
  simp [readValue]

theorem readValue_unmapped {s : State} {off : Byte} (h : ∀ r : RegName, r.offset ≠ off) : readValue s off = 0 := by
  simp [readValue, regAt_eq_none.mpr h]

/-- A write stores nothing in a register that the host may not write (10_state.md R19). -/
theorem writeOperand_of_not_rw {r : RegName} (h : r.access ≠ .rw) (v : Word) (s : State) : writeOperand r v s = s := by
  cases r <;> first | rfl | exact absurd rfl h

/-- The host's side of the port is no register: what is pending and what was read do not show in the window. -/
@[simp] theorem readReg_setPending (s : State) (es : List Event) (r : RegName) :
    readReg (s.setPending es) r = readReg s r := by cases r <;> rfl

@[simp] theorem readValue_setPending (s : State) (es : List Event) (off : Byte) :
    readValue (s.setPending es) off = readValue s off := by
  simp only [readValue]
  split <;> simp

@[simp] theorem readReg_answer (s : State) (v : Word) (r : RegName) : readReg (s.answer v) r = readReg s r := by
  cases r <;> rfl

end Sys2Proof.Machine
end

