-- ==== Sys2Proof/Laws/Exec.lean ====
section
/-! SUPPORT. What each command and each event can do, said once: the command as a function of the state (no command
stops), and the parser's checks as one case each. -/

namespace Sys2Proof.Machine

/-! ### The parser -/

theorem checkHeader_none {d : List Byte} :
    checkHeader d = none ↔ 2 ≤ d.length ∧ byteAt d 0 = header0 ∧ byteAt d 1 = header1 := by
  simp only [checkHeader]
  split
  · simp; omega
  · rename_i h
    have h2 : 2 ≤ d.length := Nat.le_of_not_lt h
    by_cases h0 : byteAt d 0 = header0 <;> by_cases h1 : byteAt d 1 = header1 <;> simp [h0, h1, h2]

theorem checkLength_none {d : List Byte} :
    checkLength d = none ↔ 4 ≤ d.length ∧ (le16 d 2).toNat = d.length - 4 := by
  simp only [checkLength]
  split
  · simp; omega
  · split <;> simp_all

theorem checkAddress_none {d : List Byte} : checkAddress d = none ↔ 7 ≤ d.length ∧ le16 d 5 = knownAddress := by
  simp only [checkAddress]
  split
  · simp; omega
  · split <;> simp_all

theorem checkTruncation_none {strict : Bool} {d : List Byte} :
    checkTruncation strict d = none ↔ requiredLength strict ≤ d.length := by
  simp only [checkTruncation]
  split <;> simp_all

/-- Checks 0 to 4 all pass exactly when no overflow happened, the header, LEN and address are right and the frame is
long enough (42_parser.md R105 to R109). -/
theorem checkFrame_none {ovf : Bool} {cap : Nat} {strict : Bool} {d : List Byte} :
    checkFrame ovf cap strict d = none ↔
      ovf = false ∧ byteAt d 0 = header0 ∧ byteAt d 1 = header1 ∧ (le16 d 2).toNat = d.length - 4 ∧
        le16 d 5 = knownAddress ∧ requiredLength strict ≤ d.length := by
  have hreq : 28 ≤ requiredLength strict := by cases strict <;> decide
  simp only [checkFrame, checkOverflow, Option.or_eq_none_iff, checkHeader_none, checkLength_none, checkAddress_none,
    checkTruncation_none]
  cases ovf <;> simp
  constructor
  · rintro ⟨⟨-, a, b⟩, ⟨-, c⟩, ⟨-, e⟩, f⟩
    exact ⟨a, b, c, e, f⟩
  · rintro ⟨a, b, c, e, f⟩
    exact ⟨⟨by omega, a, b⟩, ⟨by omega, c⟩, ⟨by omega, e⟩, f⟩

/-- Every error code is one of 1 to 6 (10_state.md R23). -/
theorem ParseError.code_cases (e : ParseError) :
    e.code = 1 ∨ e.code = 2 ∨ e.code = 3 ∨ e.code = 4 ∨ e.code = 5 ∨ e.code = 6 := by
  cases e <;> simp [ParseError.code]

theorem ParseError.code_ne_zero (e : ParseError) : e.code ≠ 0 := by cases e <;> simp [ParseError.code]

theorem ParseError.code_ne_seven (e : ParseError) : e.code ≠ 7 := by cases e <;> simp [ParseError.code]

/-- The three ways a PARSE ends: an error of checks 0 to 4; a checksum mismatch, strict mode only; success, with CRC
written in strict mode. -/
theorem parseState_cases (s : State) :
    (∃ e, checkFrame s.rxOvf s.rxCapacity s.strict s.frame = some e ∧
      parseState s = s.markLegal.markParsed.parseFail e) ∨
    (checkFrame s.rxOvf s.rxCapacity s.strict s.frame = none ∧ s.strict = true ∧
      receivedCrc s.frame ≠ computedCrc s.frame ∧
      parseState s = (s.markLegal.markParsed.setCrc (computedCrc s.frame)).parseFail
        (.checksumMismatch (receivedCrc s.frame) (computedCrc s.frame))) ∨
    (checkFrame s.rxOvf s.rxCapacity s.strict s.frame = none ∧
      (s.strict = true → receivedCrc s.frame = computedCrc s.frame) ∧
      parseState s = (if s.strict then s.markLegal.markParsed.setCrc (computedCrc s.frame)
        else s.markLegal.markParsed).parseAccept s.frame) := by
  unfold parseState State.parseChecked
  cases hc : checkFrame s.rxOvf s.rxCapacity s.strict s.frame with
  | some e => exact .inl ⟨e, rfl, rfl⟩
  | none =>
    refine .inr ?_
    cases hs : s.strict
    · exact .inr ⟨rfl, by simp, by simp⟩
    · by_cases hr : receivedCrc s.frame = computedCrc s.frame
      · exact .inr ⟨rfl, fun _ => hr, by simp [hr]⟩
      · exact .inl ⟨rfl, rfl, hr, by simp [hr]⟩

/-- The record a failing check leaves: the outcome, PARSED and ILLEGAL (42_parser.md R113). -/
theorem parseFail_eq (e : ParseError) (s : State) :
    s.markLegal.markParsed.parseFail e =
      { s with err := e.code, diag0 := BitVec.ofNat 32 e.diag0, diag1 := BitVec.ofNat 32 e.diag1, parsed := true,
               illegal := false } := rfl

/-- The record a success leaves (42_parser.md R112). -/
theorem parseAccept_eq (d : List Byte) (s : State) :
    s.markLegal.markParsed.parseAccept d =
      { s with meas := decodeFields d, diClass := (classDi (le16 d 24).toInt).code,
               hsClass := (classHs (le16 d 26).toInt).code, err := 0, diag0 := 0, diag1 := 0, parsed := true,
               measValid := true, illegal := false } := by
  apply State.ext <;> simp [State.parseAccept]

/-- CRC set between them goes through to the record. -/
theorem parseAccept_setCrc (d : List Byte) (c : Half) (s : State) :
    (s.setCrc c).parseAccept d = (s.parseAccept d).setCrc c := by
  apply State.ext <;> simp [State.parseAccept]

/-! ### Every command -/

/-- The state each command leaves. -/
def nextState : Instr → State → State
  | .nop, s => s.markLegal
  | .crcInit, s => s.markLegal.setCrc crcStart
  | .crcByte, s => s.markLegal.setCrc (crcUpdate s.crc s.dataByte)
  | .crcRx, s => s.markLegal.setCrc (crc16 s.frame)
  | .rxClear, s => (s.markLegal.setRxlen 0).setRxOvf false
  | .rxPush, s =>
    if s.rxlen < s.rxCapacity then (s.markLegal.storeRx s.rxlen s.dataByte).setRxlen (s.rxlen + 1)
    else s.markLegal.setRxOvf true
  | .build, s => ((s.markLegal.setTx (buildRequest s.requestAddress)).markTxValid).setCrc (requestCrc s.requestAddress)
  | .parse, s => parseState s
  | .clsDi, s => s.markLegal.setDiClass (classDi s.clsValue).code
  | .clsHs, s => s.markLegal.setHsClass (classHs s.clsValue).code

/-- `exec` answers that state, and stops nowhere. -/
theorem exec_eq (i : Instr) (s : State) : exec i s = .next (nextState i s) := by
  cases i
  case rxPush => simp only [exec, execRxPush, nextState]; split <;> rfl
  all_goals rfl

/-! ### What no command changes -/

theorem parseState_frame (s : State) :
    (parseState s).ctrlStrict = s.ctrlStrict ∧ (parseState s).dataIn = s.dataIn ∧ (parseState s).addrIn = s.addrIn ∧
      (parseState s).clsIn = s.clsIn ∧ (parseState s).rxCapacity = s.rxCapacity ∧ (parseState s).rxbuf = s.rxbuf ∧
      (parseState s).rxlen = s.rxlen ∧ (parseState s).rxOvf = s.rxOvf ∧ (parseState s).txbuf = s.txbuf ∧
      (parseState s).txlen = s.txlen ∧ (parseState s).txValid = s.txValid ∧ (parseState s).pending = s.pending ∧
      (parseState s).reads = s.reads ∧ (parseState s).illegal = false ∧ (parseState s).parsed = true := by
  rcases parseState_cases s with ⟨e, -, h⟩ | ⟨-, -, -, h⟩ | ⟨-, -, h⟩ <;> rw [h]
  · simp [State.parseFail]
  · simp [State.parseFail]
  · split <;> simp [State.parseAccept]

/-- No command changes an operand register, the capacity or the host's side of the port, and each clears ILLEGAL. -/
theorem nextState_frame (i : Instr) (s : State) :
    (nextState i s).ctrlStrict = s.ctrlStrict ∧ (nextState i s).dataIn = s.dataIn ∧
      (nextState i s).addrIn = s.addrIn ∧ (nextState i s).clsIn = s.clsIn ∧
      (nextState i s).rxCapacity = s.rxCapacity ∧ (nextState i s).pending = s.pending ∧
      (nextState i s).reads = s.reads ∧ (nextState i s).illegal = false := by
  cases i
  case rxPush => simp only [nextState]; split <;> simp
  case parse =>
    have h := parseState_frame s
    exact ⟨h.1, h.2.1, h.2.2.1, h.2.2.2.1, h.2.2.2.2.1, h.2.2.2.2.2.2.2.2.2.2.2.1, h.2.2.2.2.2.2.2.2.2.2.2.2.1,
      h.2.2.2.2.2.2.2.2.2.2.2.2.2.1⟩
  all_goals simp [nextState]

@[simp] theorem nextState_ctrlStrict (i : Instr) (s : State) : (nextState i s).ctrlStrict = s.ctrlStrict :=
  (nextState_frame i s).1

@[simp] theorem nextState_dataIn (i : Instr) (s : State) : (nextState i s).dataIn = s.dataIn := (nextState_frame i s).2.1

@[simp] theorem nextState_addrIn (i : Instr) (s : State) : (nextState i s).addrIn = s.addrIn :=
  (nextState_frame i s).2.2.1

@[simp] theorem nextState_clsIn (i : Instr) (s : State) : (nextState i s).clsIn = s.clsIn :=
  (nextState_frame i s).2.2.2.1

@[simp] theorem nextState_rxCapacity (i : Instr) (s : State) : (nextState i s).rxCapacity = s.rxCapacity :=
  (nextState_frame i s).2.2.2.2.1

@[simp] theorem nextState_pending (i : Instr) (s : State) : (nextState i s).pending = s.pending :=
  (nextState_frame i s).2.2.2.2.2.1

@[simp] theorem nextState_reads (i : Instr) (s : State) : (nextState i s).reads = s.reads :=
  (nextState_frame i s).2.2.2.2.2.2.1

@[simp] theorem nextState_illegal (i : Instr) (s : State) : (nextState i s).illegal = false :=
  (nextState_frame i s).2.2.2.2.2.2.2

/-! ### The port -/

theorem dispatch_ok {v : Word} {i : Instr} (h : decode v = .ok i) (s : State) :
    dispatch v s = .next (nextState i s) := by
  simp [dispatch, h, exec_eq]

theorem dispatch_error {v : Word} {e : DecodeError} (h : decode v = .error e) (s : State) :
    dispatch v s = .next s.markIllegal := by
  simp [dispatch, h]

/-- The three things a write can do: run a command, store an operand, or nothing. -/
theorem regWrite_cases (off : Byte) (v : Word) (s : State) :
    (off = 0x00 ∧ regWrite off v s = dispatch v s) ∨
    (∃ r : RegName, r.access = .rw ∧ off = r.offset ∧ regWrite off v s = .next (writeOperand r v s)) ∨
    ((∀ r : RegName, off = r.offset → r.access = .ro) ∧ regWrite off v s = .next s) := by
  cases h : regAt off with
  | none =>
    exact .inr (.inr ⟨fun r hr => absurd hr.symm (regAt_eq_none.mp h r), by simp [regWrite, h]⟩)
  | some r =>
    have hoff := regAt_eq_some.mp h
    cases ha : r.access with
    | rw =>
      refine .inr (.inl ⟨r, ha, hoff, ?_⟩)
      cases r <;> simp_all [regWrite, RegName.access]
    | ro =>
      refine .inr (.inr ⟨fun r' hr' => ?_, ?_⟩)
      · have : regAt off = some r' := regAt_eq_some.mpr hr'
        rw [h] at this
        cases this
        exact ha
      · cases r <;> simp_all [regWrite, RegName.access]
    | wo =>
      refine .inl ?_
      cases r <;> simp_all [regWrite, RegName.access, RegName.offset]

/-! ### One step -/

theorem step_nil {s : State} (h : s.pending = []) : step s = .next s := by simp [step, serveNext, h]

theorem step_cons {s : State} {e : Event} {rest : List Event} (h : s.pending = e :: rest) :
    step s = serve e (s.setPending rest) := by simp [step, serveNext, h]

/-- Everything one step can do: nothing, when nothing is pending; else it takes the next event off and answers a read,
runs a command, marks an illegal opcode, stores an operand, ignores a write, or resets the block. -/
theorem step_cases (s : State) :
    (s.pending = [] ∧ step s = .next s) ∨
    (∃ e rest, s.pending = e :: rest ∧
      ((∃ off, e = .host (.read off) ∧
          step s = .next ((s.setPending rest).answer (readValue (s.setPending rest) off))) ∨
        (∃ v i, e = .host (.write 0x00 v) ∧ decode v = .ok i ∧ step s = .next (nextState i (s.setPending rest))) ∨
        (∃ v err, e = .host (.write 0x00 v) ∧ decode v = .error err ∧
          step s = .next (s.setPending rest).markIllegal) ∨
        (∃ (r : RegName) (v : Word), r.access = .rw ∧ e = .host (.write r.offset v) ∧
          step s = .next (writeOperand r v (s.setPending rest))) ∨
        (∃ off v, e = .host (.write off v) ∧ (∀ r : RegName, off = r.offset → r.access = .ro) ∧
          step s = .next (s.setPending rest)) ∨
        (e = .reset ∧ step s = .next (s.setPending rest).applyReset))) := by
  cases hp : s.pending with
  | nil => exact .inl ⟨rfl, step_nil hp⟩
  | cons e rest =>
    refine .inr ⟨e, rest, rfl, ?_⟩
    have hs := step_cons hp
    match e with
    | .reset => exact .inr (.inr (.inr (.inr (.inr ⟨rfl, hs⟩))))
    | .host (.read off) => exact .inl ⟨off, rfl, hs⟩
    | .host (.write off v) =>
      rcases regWrite_cases off v (s.setPending rest) with ⟨rfl, h⟩ | ⟨r, ha, rfl, h⟩ | ⟨ha, h⟩
      · cases hd : decode v with
        | ok i => exact .inr (.inl ⟨v, i, rfl, hd, hs.trans (h.trans (dispatch_ok hd _))⟩)
        | error err => exact .inr (.inr (.inl ⟨v, err, rfl, hd, hs.trans (h.trans (dispatch_error hd _))⟩))
      · exact .inr (.inr (.inr (.inl ⟨r, v, ha, rfl, hs.trans h⟩)))
      · exact .inr (.inr (.inr (.inr (.inl ⟨off, v, rfl, ha, hs.trans h⟩))))

end Sys2Proof.Machine
end

