-- ==== Sys2Proof/Laws/PerInstr.lean ====
section
/-! SUPPORT. One lemma per constructor of Instr: what holds of every command as syntax. -/

namespace Sys2Proof.Laws.RoundTrip

/-- The command is well-formed, and the word written for it decodes to it, as a word and as bytes. -/
def Statement (i : Instr) : Prop :=
  i.wf = true ∧ decode (encode i) = .ok i ∧ decodeBytes (wordBytes (encode i)) = .ok i

theorem nop : Statement .nop := ⟨rfl, by rfl, by rfl⟩
theorem crcInit : Statement .crcInit := ⟨rfl, by rfl, by rfl⟩
theorem crcByte : Statement .crcByte := ⟨rfl, by rfl, by rfl⟩
theorem crcRx : Statement .crcRx := ⟨rfl, by rfl, by rfl⟩
theorem rxClear : Statement .rxClear := ⟨rfl, by rfl, by rfl⟩
theorem rxPush : Statement .rxPush := ⟨rfl, by rfl, by rfl⟩
theorem build : Statement .build := ⟨rfl, by rfl, by rfl⟩
theorem parse : Statement .parse := ⟨rfl, by rfl, by rfl⟩
theorem clsDi : Statement .clsDi := ⟨rfl, by rfl, by rfl⟩
theorem clsHs : Statement .clsHs := ⟨rfl, by rfl, by rfl⟩

end Sys2Proof.Laws.RoundTrip
end

