-- ==== Sys2Proof/Tests/Slice0.lean ====
section
/-! SUPPORT. Tests: words written out from the encoding, ill-formed terms refused, one step per command with results taken from
95_test_vectors.md, and for every statement with hypotheses a state and operands that meet them. -/

namespace Sys2Proof.Tests

open Sys2Proof.Machine Sys2Proof.Claims

/-! ### Helpers -/

/-- What `p` says of the next state, if there is one. -/
def leaves (o : Host.Outcome State Fault Refusal) (p : State → Bool) : Bool :=
  match o with
  | .next t => p t
  | .fault _ => false
  | .refused _ => false

/-- Reset, with the bytes given in the receive buffer. -/
def holding (bs : List Byte) : State :=
  { State.reset with rxbuf := (List.range bs.length).zip bs, rxlen := bs.length }

/-- A host operation as the next event of a state. -/
def facing (op : HostOp) (s : State) : State := { s with pending := [.host op] }

/-- The frame FA of 95_test_vectors.md. -/
def frameA : List Byte :=
  [0x52, 0x42, 0x18, 0x00, 0x01, 0x22, 0x50, 0x01, 0xF6, 0x09, 0x88, 0x13, 0x2C, 0x01, 0x02, 0x76, 0x0F, 0x00, 0xA0, 0x0F,
    0x0A, 0x00, 0x90, 0x01, 0x58, 0x1B, 0x1C, 0x0C]

/-- The frame FB of 95_test_vectors.md. -/
def frameB : List Byte :=
  [0x52, 0x42, 0x1A, 0x00, 0x01, 0x22, 0x50, 0x2A, 0xCE, 0xFF, 0x8F, 0x19, 0xFF, 0x7F, 0xFF, 0xFF, 0xFF, 0xFF, 0x00, 0x80,
    0x00, 0x00, 0xFF, 0xFF, 0x57, 0x1B, 0x1B, 0x0C, 0x70, 0x75]

/-- FBc of V-P4: FB with byte 8 changed. -/
def frameBc : List Byte := frameB.set 8 0xCF

/-- The request's first seven bytes (V-C1). -/
def sevenBytes : List Byte := [0x52, 0x42, 0x05, 0x00, 0x01, 0x22, 0x50]

/-- The measurements FA carries. -/
def measA : Measurement where
  rxCmd := 1
  rxAddr := 0x5022
  seq := 1
  temp := 2550
  hum := 5000
  light := 300
  press := 1013250
  noise := 4000
  etvoc := 10
  eco2 := 400
  di := 7000
  hs := 3100

/-- The measurements FB carries. -/
def measB : Measurement where
  rxCmd := 1
  rxAddr := 0x5022
  seq := 0x2A
  temp := 0xFFCE
  hum := 6543
  light := 32767
  press := 0xFFFFFFFF
  noise := 0x8000
  etvoc := 0
  eco2 := 0xFFFF
  di := 6999
  hs := 3099

/-! ### Encodings, written out from R75 and R77 -/

theorem test_word_nop : decode 0b00000000000000000000000000000000 = .ok .nop := by rfl
theorem test_word_crcInit : decode 0b00000000000000000000000000000001 = .ok .crcInit := by rfl
theorem test_word_crcByte : decode 0b00000000000000000000000000000010 = .ok .crcByte := by rfl
theorem test_word_crcRx : decode 0b00000000000000000000000000000011 = .ok .crcRx := by rfl
theorem test_word_rxClear : decode 0b00000000000000000000000000010000 = .ok .rxClear := by rfl
theorem test_word_rxPush : decode 0b00000000000000000000000000010001 = .ok .rxPush := by rfl
theorem test_word_build : decode 0b00000000000000000000000000100000 = .ok .build := by rfl
theorem test_word_parse : decode 0b00000000000000000000000000110000 = .ok .parse := by rfl
theorem test_word_clsDi : decode 0b00000000000000000000000001000000 = .ok .clsDi := by rfl
theorem test_word_clsHs : decode 0b00000000000000000000000001000001 = .ok .clsHs := by rfl

/-- Bits [31:8] are ignored: `cmd 0x120` is BUILD, `cmd 0x130` is PARSE (V-S3, P4). -/
theorem test_word_ignored_bits : decode 0x120 = .ok .build ∧ decode 0x130 = .ok .parse ∧ decode 0xFFFFFF02 = .ok .crcByte :=
  ⟨by rfl, by rfl, by rfl⟩

/-- The illegal opcodes on both sides of every legal one (R78). -/
theorem test_word_illegal : [0x04, 0x0F, 0x12, 0x1F, 0x21, 0x2F, 0x31, 0x3F, 0x42, 0xFF].all
    (fun n => decide (decode (BitVec.ofNat 32 n) = .error (.illegalOpcode (BitVec.ofNat 8 n)))) = true := by decide

/-- A word as the four bytes of a platform bus, low byte first; three bytes are no word (R61, R79). -/
theorem test_bytes : decodeBytes [0x11, 0x00, 0x00, 0x00] = .ok .rxPush ∧ decodeBytes [0x11, 0x00, 0x00] = .error (.notOneWord 3) :=
  ⟨by rfl, by rfl⟩

/-- What the host asks of an opcode-table row: the decoder's answer, and that the next step runs the row's command. -/
theorem test_table_rows :
    decodeTableWord 32 0x20 = some .build ∧ decodeTableWord 32 0x55 = none ∧
      leaves (step (State.reset.withFetchWord 32 0x20)) (fun t => t.txValid && t.txlen == 9) = true := by decide +kernel

/-! ### Ill-formed terms -/

/-- RX_CAPACITY is at least 30 (R8). -/
theorem test_wf_capacity : wfCapacity 29 = false ∧ wfCapacity 30 = true := by decide

/-- The window has 256 offsets (R63). -/
theorem test_wf_target : Target.wf (.offset 0x100) = false ∧ Target.wf (.offset 0xFC) = true := by decide

/-- A written value is a u32 (R63). -/
theorem test_wf_wr : Stmt.wf (.wr (.reg .ctrl) (2 ^ 32)) = false ∧ Stmt.wf (.wr (.reg .ctrl) (2 ^ 32 - 1)) = true ∧
    Stmt.wf (.wr (.offset 0x100) 0) = false ∧ Stmt.wf (.rd (.offset 0x100)) = false := by decide

/-- `cmd 0xNN` takes one byte (R88). -/
theorem test_wf_cmdByte : Stmt.wf (.cmdByte 0x100) = false ∧ Stmt.wf (.cmdByte 0xFF) = true := by decide

/-- An expected value is a u32 (R88). -/
theorem test_wf_expect : Stmt.wf (.expect .status (2 ^ 32)) = false ∧ Stmt.wf (.expect .status 0x18) = true := by decide

/-- `load_rx` and `crc_bytes` take bytes, `build` a u16 (R89). -/
theorem test_wf_lines : Line.wf (.loadRx [0x52, 0x100]) = false ∧ Line.wf (.crcBytes [0x100]) = false ∧
    Line.wf (.build 0x10000) = false ∧ Line.wf (.build 0xFFFF) = true ∧ Line.wf (.stmt (.cmdByte 0x100)) = false := by decide

/-- Every command is well-formed. -/
theorem test_wf_instr : [Instr.nop, .crcInit, .crcByte, .crcRx, .rxClear, .rxPush, .build, .parse, .clsDi, .clsHs].all
    Instr.wf = true := by decide

/-! ### Commands -/

/-- R130's example. -/
theorem test_nop : leaves (exec .nop { State.reset with illegal := true, err := 4 }) (fun t => !t.illegal && t.err == 4) =
    true := by decide +kernel

/-- V-C5, R94's example. -/
theorem test_crcInit : leaves (exec .crcInit { State.reset with crc := 0x1234, illegal := true })
    (fun t => t.crc == 0xFFFF && !t.illegal) = true := by decide +kernel

/-- V-C1, V-C5: the first byte; and the last but one of the trace, E3F4 to BBE2. -/
theorem test_crcByte : leaves (exec .crcByte { State.reset with dataIn := 0x52 }) (fun t => t.crc == 0xBD3E) = true ∧
    leaves (exec .crcByte { State.reset with dataIn := 0x50, crc := 0xE3F4 }) (fun t => t.crc == 0xBBE2) = true := by
  decide +kernel

/-- V-C5: seven bytes, and none. -/
theorem test_crcRx : leaves (exec .crcRx { holding sevenBytes with crc := 0x1234 })
      (fun t => t.crc == 0xBBE2 && t.rxlen == 7) = true ∧
    leaves (exec .crcRx { State.reset with crc := 0x1234 }) (fun t => t.crc == 0xFFFF) = true := by decide +kernel

/-- V-C4: the residue over FB. -/
theorem test_crcRx_residue : leaves (exec .crcRx (holding frameB)) (fun t => t.crc == 0) = true := by decide +kernel

/-- R102's example. -/
theorem test_rxClear : leaves (exec .rxClear { holding frameA with rxOvf := true, err := 6 })
    (fun t => t.rxlen == 0 && !t.rxOvf && t.err == 6) = true := by decide +kernel

/-- V-P15: an empty buffer takes the byte. -/
theorem test_rxPush : leaves (exec .rxPush { State.reset with dataIn := 0x52 })
    (fun t => t.rxlen == 1 && t.rxByte 0 == 0x52 && !t.rxOvf) = true := by decide +kernel

/-- V-P13: the 31st byte of a 30-byte buffer is dropped. -/
theorem test_rxPush_full : leaves (exec .rxPush { holding frameB with rxCapacity := 30, dataIn := 0x11 })
    (fun t => t.rxlen == 30 && t.rxOvf && t.rxByte 29 == 0x75) = true := by decide +kernel

/-- V-S1. -/
theorem test_build : leaves (exec .build { State.reset with addrIn := 0x5022 })
    (fun t => t.txbuf.toList == [0x52, 0x42, 0x05, 0x00, 0x01, 0x22, 0x50, 0xE2, 0xBB] && t.txlen == 9 && t.crc == 0xBBE2 &&
      readValue t 0x04 == 0x20) = true := by decide +kernel

/-- V-S2: the address 0x1234, its low byte first. -/
theorem test_build_order : leaves (exec .build { State.reset with addrIn := 0x1234 })
    (fun t => t.txbuf.toList == [0x52, 0x42, 0x05, 0x00, 0x01, 0x34, 0x12, 0x6C, 0xEA] && t.crc == 0xEA6C) = true := by
  decide +kernel

/-- V-P1: FA, lenient. -/
theorem test_parse_lenient : leaves (exec .parse (holding frameA))
    (fun t => readValue t 0x04 == 0x18 && t.meas == measA && t.diClass == 1 && t.hsClass == 3 && t.crc == 0xFFFF) = true := by
  decide +kernel

/-- V-P4: FBc, strict. -/
theorem test_parse_strict : leaves (exec .parse { holding frameBc with ctrlStrict := true })
    (fun t => readValue t 0x04 == 0x0D && t.diag0 == 0x7570 && t.diag1 == 0xA44D && t.crc == 0xA44D &&
      t.meas == Measurement.zero && t.diClass == 7) = true := by decide +kernel

/-- V-K1: both sides of 70.00, and the most negative index. -/
theorem test_clsDi : [(6999, 0), (7000, 1), (7500, 2), (8000, 3), (8499, 3), (8500, 4), (0x8000, 0)].all (fun x : Nat × Nat =>
    leaves (exec .clsDi { State.reset with clsIn := BitVec.ofNat 16 x.1 }) (fun t => t.diClass.toNat == x.2)) = true := by
  decide +kernel

/-- V-K2. -/
theorem test_clsHs : [(2499, 0), (2500, 1), (2800, 2), (3099, 2), (3100, 3), (0x7FFF, 3), (0xFFFF, 0)].all
    (fun x : Nat × Nat =>
      leaves (exec .clsHs { State.reset with clsIn := BitVec.ofNat 16 x.1 }) (fun t => t.hsClass.toNat == x.2)) = true := by
  decide +kernel

/-! ### The port -/

/-- V-P3: a negative temperature reads sign-extended; CLS_IN does not (R32). -/
theorem test_read_extension :
    readValue { State.reset with meas := measB } 0x38 = 0xFFFFFFCE ∧ readValue { State.reset with clsIn := 0xFFFF } 0x14 = 0xFFFF := by
  decide

/-- V-C5: DATA_IN keeps its low byte. -/
theorem test_write_operand : leaves (step (facing (.write 0x0C 0x152) State.reset)) (fun t => t.dataIn == 0x52) = true := by
  decide +kernel

/-- R129's example. -/
theorem test_illegal : leaves (step (facing (.write 0x00 0x55) State.reset)) (fun t => readValue t 0x04 == 0x40) = true := by
  decide +kernel

/-- P4: a misaligned write is ignored, an unmapped read gives 0. -/
theorem test_ignored_access :
    step (facing (.write 0x06 0x1234) State.reset) = .next State.reset ∧
      leaves (step (facing (.read 0xFC) State.reset)) (fun t => t.reads == [0]) = true := by
  constructor
  · rfl
  · decide +kernel

/-- R146: a reset in mid-use keeps RX_CAPACITY. -/
theorem test_reset : leaves (step { holding frameA with rxCapacity := 30, crc := 0, diClass := 2, pending := [.reset] })
    (fun t => t.rxlen == 0 && t.crc == 0xFFFF && t.diClass == 7 && t.rxCapacity == 30) = true := by decide +kernel

/-- R89: the expansions, encoded as 95_test_vectors.md encodes P4. -/
theorem test_expansion :
    scriptEvents [.loadRx [0x52], .classifyHs (-1)] =
      [.host (.write 0x00 0x10), .host (.write 0x0C 0x52), .host (.write 0x00 0x11), .host (.write 0x14 0xFFFF),
        .host (.write 0x00 0x41)] := by decide +kernel

/-! ### Witnesses: for every statement with hypotheses, and for each clause of its own, what meets them

Boundary values of a range stand in them where a clause has one. -/

/-- What lies at an index of the cells made from a list. -/
theorem read?_zipIdx (bs : List Byte) (k i : Nat) (h : i < bs.length) :
    Memory.read? ((List.range' k bs.length).zip bs) (k + i) = some bs[i] := by
  induction bs generalizing k i with
  | nil => simp at h
  | cons b bs ih =>
    rw [List.length_cons, List.range'_succ, List.zip_cons_cons, Memory.read?]
    cases i with
    | zero => simp
    | succ i =>
      have := ih (k + 1) i (by simpa using h)
      rw [if_neg (by omega), show k + (i + 1) = k + 1 + i by omega, this]
      simp

/-- `holding` holds the bytes given: every byte sequence is the frame of some state. -/
theorem frame_holding (bs : List Byte) : (holding bs).frame = bs := by
  apply List.ext_getElem
  · simp [holding]
  · intro i h1 h2
    have := read?_zipIdx bs 0 i h2
    simp only [Nat.zero_add] at this
    simp [State.frame, State.rxByte, holding, List.range_eq_range', this]

/-- StepIsTheSpecifiedFunction: a misaligned offset, offsets beside the two mapped ranges, CMD, the last RW register, the
last RO register; nothing to come, and something. -/
theorem witness_step_clauses :
    (0x06 : Byte).toNat % 4 ≠ 0 ∧ (∀ r : RegName, r.offset ≠ 0x68) ∧ (∀ r : RegName, r.offset ≠ 0x7C) ∧
      (∀ r : RegName, r.offset ≠ 0xA4) ∧ (∀ r : RegName, r.offset ≠ 0xFC) ∧ RegName.clsIn.offset = 0x14 ∧
      RegName.clsIn.access = .rw ∧ RegName.txb8.offset = 0xA0 ∧ RegName.txb8.access = .ro ∧
      State.reset.pending = [] ∧ step State.reset = .next State.reset ∧
      (facing (.read 0x04) State.reset).pending ≠ [] := by
  refine ⟨by decide, ?_, ?_, ?_, ?_, rfl, rfl, rfl, rfl, rfl, rfl, by decide⟩ <;> intro r <;> cases r <;> decide

/-- StepRunsTheDecodedCommand. -/
theorem witness_stepRuns : (facing (.write 0x00 0x130) State.reset).pending = .host (.write 0x00 0x130) :: [] ∧
    decode 0x130 = .ok .parse := ⟨rfl, by rfl⟩

/-- NothingPendingChangesNothing. -/
theorem witness_nothingPending : State.reset.pending = [] := rfl

/-- UnmappedAndMisalignedAccessesDoNothing, and the last clause of ReadValueExtendsEveryField: the offsets beside the mapped
ranges. -/
theorem witness_unmapped : [0x01, 0x65, 0x68, 0x7C, 0x83, 0xA4, 0xFF].all (fun o : Byte =>
    decide (o.toNat % 4 ≠ 0 ∨ ¬(o.toNat ≤ 0x64 ∨ (0x80 ≤ o.toNat ∧ o.toNat ≤ 0xA0)))) = true := by decide

/-- ReservedBitsAndReadOnlyRegisters. -/
theorem witness_readOnly : RegName.status.access = .ro ∧ RegName.txb8.access = .ro := ⟨rfl, rfl⟩

/-- OperandWritesStoreTheDefinedBits, its last clause. -/
theorem witness_operandWrites : RegName.addrIn.access = .rw ∧
    ∃ t, step { State.reset with pending := .host (.write RegName.addrIn.offset 0x12345022) :: [] } = .next t :=
  ⟨rfl, _, rfl⟩

/-- ResultsAreReadableAtOnce. -/
theorem witness_results : decode 0x41 = .ok .clsHs := by rfl

/-- DecodeGivesBackTheEncodedCommand. -/
theorem witness_roundTrip : Instr.wf .parse = true ∧ encode .parse = 0x30 := ⟨rfl, rfl⟩

/-- IllegalOpcodesOnlySetIllegal: the first and the last illegal opcode, the first and the last legal one. -/
theorem witness_illegal : illegalOp ((0x04 : Word).toNat % 256) = true ∧ illegalOp ((0xFFFFFFFF : Word).toNat % 256) = true ∧
    illegalOp ((0x100 : Word).toNat % 256) = false ∧ illegalOp ((0x41 : Word).toNat % 256) = false := by decide

/-- FieldsDoNotOverlap: the shortest strict frame. -/
theorem witness_fields : 30 ≤ 30 ∧ Field.heatStrokeIndex.offset + Field.heatStrokeIndex.width = 30 - 2 := by decide

/-- PhysicalValuesAreExact: the three examples. -/
theorem witness_physical : measA.raw .temperature = 2550 ∧ measA.raw .pressure = 1013250 ∧ measB.raw .temperature = -50 := by
  decide

/-- CrcInitSetsTheInitialValue, CrcByteFoldsOneByte, CrcRxChecksumsTheBuffer: their words and examples. -/
theorem witness_crc :
    (0x101 : Word).extractLsb' 0 8 = 0x01 ∧ (0x102 : Word).extractLsb' 0 8 = 0x02 ∧ (0x103 : Word).extractLsb' 0 8 = 0x03 ∧
      State.reset.crc = 0xFFFF ∧ ({ State.reset with dataIn := 0x52 } : State).dataIn = 0x52 ∧ State.reset.rxlen = 0 ∧
      (holding sevenBytes).frame = [0x52, 0x42, 0x05, 0x00, 0x01, 0x22, 0x50] := by decide +kernel

/-- CrcRxChecksumsTheBuffer: a frame that ends with its own checksum. -/
theorem witness_residue : (holding frameB).frame = frameB.take 28 ++ bytes16 (crc16 (frameB.take 28)) := by decide +kernel

/-- BuildWritesTheRequest and BuiltRequestReadsBack. -/
theorem witness_build : ({ State.reset with addrIn := 0x5022 } : State).addrIn = 0x5022 ∧
    (0x120 : Word).extractLsb' 0 8 = 0x20 := by decide

/-- RxClearEmptiesTheBuffer and RxPushAppendsOrOverflows: the last free place, and a full buffer. -/
theorem witness_rx : (0x10 : Word).extractLsb' 0 8 = 0x10 ∧ (0x11 : Word).extractLsb' 0 8 = 0x11 ∧
    ({ State.reset with rxlen := 255 } : State).rxlen < ({ State.reset with rxlen := 255 } : State).rxCapacity ∧
    ({ State.reset with rxlen := 256 } : State).rxCapacity ≤ ({ State.reset with rxlen := 256 } : State).rxlen := by decide

/-- FailedParseKeepsTheResults: the empty frame, the frame one byte too short, and a wrong checksum in strict mode. -/
theorem witness_failed : (outcomeOf State.reset).1 ≠ 0 ∧ (outcomeOf (holding (frameA.take 27))).1 ≠ 0 ∧
    (outcomeOf { holding frameBc with ctrlStrict := true }).1 = 5 := by decide +kernel

/-- SuccessfulParseDecodesEveryField: the shortest frame of each mode. -/
theorem witness_successful : (outcomeOf (holding frameA)).1 = 0 ∧
    (outcomeOf { holding frameB with ctrlStrict := true }).1 = 0 := by decide +kernel

/-- ParseAcceptsExactlyTheValidFrames: its last two clauses, and a frame that its equivalence accepts. -/
theorem witness_accepts : (holding frameA).ctrlStrict = false ∧ (0x130 : Word).extractLsb' 0 8 = 0x30 ∧
    leaves (exec .parse (holding frameA)) (fun t => t.err == 0) = true := by decide +kernel

/-- LenientParseRecoversEveryFrame: FA, with no tail. -/
theorem witness_lenient : (holding frameA).rxOvf = false ∧ (holding frameA).ctrlStrict = false ∧ measA.rxAddr = 0x5022 ∧
    ([] : List Byte).length ≤ 65511 ∧ (holding frameA).frame = responseHead measA (24 + ([] : List Byte).length) ++ [] := by
  decide +kernel

/-- LenientParseRecoversEveryFrame: the longest tail. -/
theorem witness_lenient_longest :
    ∃ (s : State) (m : Measurement) (tail : List Byte), s.rxOvf = false ∧ s.ctrlStrict = false ∧ m.rxAddr = 0x5022 ∧
      tail.length = 65511 ∧ s.frame = responseHead m (24 + tail.length) ++ tail := by
  obtain ⟨tail, h⟩ : ∃ tail : List Byte, tail.length = 65511 := ⟨List.replicate 65511 0, List.length_replicate⟩
  exact ⟨holding (responseHead measA (24 + tail.length) ++ tail), measA, tail, rfl, rfl, rfl, h, frame_holding _⟩

/-- StrictParseRecoversEveryFrame: FB, with nothing between the fields and the checksum. -/
theorem witness_strict : ({ holding frameB with ctrlStrict := true } : State).rxOvf = false ∧ measB.rxAddr = 0x5022 ∧
    ([] : List Byte).length ≤ 65509 ∧ ({ holding frameB with ctrlStrict := true } : State).frame =
      responseHead measB (26 + ([] : List Byte).length) ++ [] ++
        bytes16 (crc16 (responseHead measB (26 + ([] : List Byte).length) ++ [])) := by decide +kernel

/-- StrictParseRecoversEveryFrame: the longest frame. -/
theorem witness_strict_longest :
    ∃ (s : State) (m : Measurement) (pad : List Byte), s.rxOvf = false ∧ s.ctrlStrict = true ∧ m.rxAddr = 0x5022 ∧
      pad.length = 65509 ∧
      s.frame = responseHead m (26 + pad.length) ++ pad ++ bytes16 (crc16 (responseHead m (26 + pad.length) ++ pad)) := by
  obtain ⟨pad, h⟩ : ∃ pad : List Byte, pad.length = 65509 := ⟨List.replicate 65509 0, List.length_replicate⟩
  exact ⟨{ holding (responseHead measA (26 + pad.length) ++ pad ++ bytes16 (crc16 (responseHead measA (26 + pad.length) ++ pad)))
    with ctrlStrict := true }, measA, pad, rfl, rfl, rfl, h, frame_holding _⟩

/-- LenientParseIgnoresTheTail: FB, and a store that differs from it in byte 28. -/
theorem witness_tail : (holding frameB).ctrlStrict = false ∧
    (∀ i, i < 28 → ({ holding frameB with rxbuf := (holding (frameB.set 28 0)).rxbuf } : State).rxByte i =
      (holding frameB).rxByte i) ∧
    (holding (frameB.set 28 0)).rxByte 28 ≠ (holding frameB).rxByte 28 := by decide +kernel

/-- LenientModeMatchesTheReference: a frame that the reference would read beyond, and the shortest it always decides. -/
theorem witness_reference : (holding [0x52]).ctrlStrict = false ∧ (holding [0x52]).rxOvf = false ∧
    referenceCode (holding [0x52]).frame = none ∧ 28 ≤ (holding frameA).frame.length ∧
    referenceCode (holding frameA).frame = some 0 := by decide +kernel

/-- RoundedQuotientsClassifyAlike: just below a threshold, and on it. -/
theorem witness_rounded :
    |(69989 / 1000 : ℚ) - ((6999 : Int) : ℚ) / 100| < 1 / 100 ∧ (6999 : Int) % 100 ≠ 0 ∧
      |(70 : ℚ) - ((7000 : Int) : ℚ) / 100| < 1 / 100 ∧ (7000 : Int) % 100 = 0 ∧ (70 : ℚ) = ((7000 : Int) : ℚ) / 100 := by
  norm_num [abs_lt]

/-- ClsDiClassifiesTheOperand and ClsHsClassifiesTheOperand: the operands of their clauses, and their words. -/
theorem witness_cls : [0x8000, 0x7FFF, 0x1B58, 0x1B57].all (fun v : Half =>
      decide (({ State.reset with clsIn := v } : State).clsIn = v)) = true ∧
    ({ State.reset with clsIn := 3100 } : State).clsIn.toNat = 3100 ∧
    ({ State.reset with clsIn := 3099 } : State).clsIn.toNat = 3099 ∧
    (0x140 : Word).extractLsb' 0 8 = 0x40 ∧ (0x141 : Word).extractLsb' 0 8 = 0x41 := by decide

/-- LabelsAndCodeOrder: two indices beside a threshold. -/
theorem witness_order : (6999 : Int) ≤ 7000 ∧ (classDi 6999).code < (classDi 7000).code := by decide

/-- NopOnlyClearsIllegal: any bits above OP. -/
theorem witness_nop : (0xFFFFFF00 : Word).extractLsb' 0 8 = 0x00 := by decide

/-- PseudoStatementsRunTheirCommands: the ends of the range. -/
theorem witness_pseudo : (-32768 : Int) ≤ -32768 ∧ (-32768 : Int) ≤ 32767 ∧ (-32768 : Int) ≤ 32767 ∧
    (32767 : Int) ≤ 32767 := by decide

/-- CommandsChangeOnlyTheirRegisters: a register a command does not write, a lenient PARSE, the byte an RX_PUSH stores and
one it does not. -/
theorem witness_frame : RegName.crc ∉ writes .nop ∧ RegName.txb8 ∉ writes .parse ∧ State.reset.ctrlStrict = false ∧
    (Instr.build ≠ .rxClear ∧ Instr.build ≠ .rxPush) ∧ Instr.nop ≠ .build ∧ Instr.nop ≠ .parse ∧
    ¬(Instr.rxPush = .rxPush ∧ State.reset.rxlen < State.reset.rxCapacity ∧ 1 = State.reset.rxlen) := by decide

/-- ResultsDependOnOperandsAlone: two states that differ in results but not in operands. -/
theorem witness_operands : SameOperands .crcByte State.reset { State.reset with diag0 := 5, diClass := 2 } ∧
    State.reset ≠ { State.reset with diag0 := 5, diClass := 2 } :=
  ⟨⟨rfl, rfl, rfl, rfl, rfl, rfl, rfl, rfl, fun _ => rfl⟩, by decide +kernel⟩

/-- UnspecifiedBytesAreUnobservable: two states that differ in a byte above RXLEN. -/
theorem witness_unobservable : SameVisible State.reset { State.reset with rxbuf := [(0, 0x52)] } ∧
    State.reset ≠ { State.reset with rxbuf := [(0, 0x52)] } :=
  ⟨⟨rfl, rfl⟩, by decide +kernel⟩

/-- StickyFlagsAreClearedOnlyByReset and OperandRegistersBelongToTheHost: a step that is no reset, with the flags set; and
one that changes an operand register. -/
theorem witness_noReset :
    (facing (.write 0x08 1) { State.reset with parsed := true, measValid := true, txValid := true }).pending.head? ≠
        some .reset ∧
      leaves (step (facing (.write 0x08 1) State.reset)) (fun t => t.ctrlStrict != State.reset.ctrlStrict) = true ∧
      leaves (step (facing (.write 0x0C 1) State.reset)) (fun t => t.dataIn != State.reset.dataIn) = true ∧
      leaves (step (facing (.write 0x10 1) State.reset)) (fun t => t.addrIn != State.reset.addrIn) = true ∧
      leaves (step (facing (.write 0x14 1) State.reset)) (fun t => t.clsIn != State.reset.clsIn) = true := by
  decide +kernel

/-- IllegalDescribesTheLastCommand: an offset that is not CMD's. -/
theorem witness_notCmd : (0x04 : Byte) ≠ 0x00 := by decide

/-- OverflowFlagLifecycle: a full buffer with the flag set, and an operation that is no CMD write. -/
theorem witness_overflow :
    ({ State.reset with rxlen := 256, rxOvf := true } : State).rxlen ≤ State.reset.rxCapacity ∧
      ({ State.reset with rxlen := 256, rxOvf := true } : State).rxOvf = true ∧
      ∀ v : Word, HostOp.read 0x04 ≠ .write 0x00 v := ⟨by decide, rfl, fun _ => by simp⟩

/-- CrcRegisterWriters: a command that is none of the writers, a PARSE that reaches its checksum step, and one that does
not. -/
theorem witness_crcWriters :
    (Instr.rxPush ≠ .crcInit ∧ Instr.rxPush ≠ .crcByte ∧ Instr.rxPush ≠ .crcRx ∧ Instr.rxPush ≠ .build) ∧
      checksumReached { holding frameB with ctrlStrict := true } = true ∧
      checksumReached { holding frameBc with ctrlStrict := true } = true ∧
      checksumReached { holding frameA with ctrlStrict := true } = false := by decide +kernel

/-- ResetMeetsTheInvariant: the least capacity. -/
theorem witness_capacity : 30 ≤ 30 := Nat.le_refl 30

/-- StepKeepsTheInvariant: a state that holds a pushed byte, a failed PARSE and a classification, and a step from it. -/
theorem witness_inv : ∃ s t : State, Inv s ∧ step s = .next t ∧ s ≠ State.reset := by
  refine ⟨{ State.reset with
    rxbuf := [(0, 0x52)], rxlen := 1, parsed := true, err := 4, diag0 := 1, diag1 := 2, diClass := 4, dataIn := 0x52,
    pending := [.host (.write 0x00 0x20)] }, _, ?_, rfl, by decide +kernel⟩
  constructor
  case tx_built => intro h; exact absurd h (by decide)
  case rxbuf_wf => exact List.pairwise_singleton _ _
  case rxbuf_pushed => intro i hi; obtain rfl : i = 0 := Nat.lt_one_iff.mp hi; rfl
  all_goals decide +kernel

end Sys2Proof.Tests
end

/-! PROOFS. The block's state (10_state.md): what a step, a command and an operand write do to each part of it, and the
statements about them. -/

namespace Sys2Proof.Machine

open Claims

/-! ### One rule per kind of event -/

section StepRules
variable {s : State} {rest : List Event} {off : Byte} {v : Word}

theorem step_read (h : s.pending = .host (.read off) :: rest) :
    step s = .next ((s.setPending rest).answer (readValue (s.setPending rest) off)) := step_cons h

theorem step_reset (h : s.pending = .reset :: rest) : step s = .next (s.setPending rest).applyReset := step_cons h

theorem step_write (h : s.pending = .host (.write off v) :: rest) : step s = regWrite off v (s.setPending rest) :=
  step_cons h

/-- Every offset is CMD's, an RW register's, or one whose writes are ignored (20_memory.md R65, 44_control.md R127). -/
theorem offset_cases (off : Byte) :
    off = 0x00 ∨ (∃ r : RegName, r.access = .rw ∧ off = r.offset) ∨ ∀ r : RegName, off = r.offset → r.access = .ro := by
  rcases regWrite_cases off 0 State.reset with ⟨h, -⟩ | ⟨r, hr, h, -⟩ | ⟨h, -⟩
  exacts [.inl h, .inr (.inl ⟨r, hr, h⟩), .inr (.inr h)]

theorem regWrite_cmd (v : Word) (s : State) : regWrite 0x00 v s = dispatch v s := rfl

theorem regWrite_rw {r : RegName} (hr : r.access = .rw) (v : Word) (s : State) :
    regWrite r.offset v s = .next (writeOperand r v s) := by
  cases r <;> cases hr <;> rfl

theorem regWrite_ignored (hro : ∀ r : RegName, off = r.offset → r.access = .ro) (v : Word) (s : State) :
    regWrite off v s = .next s := by
  rcases regWrite_cases off v s with ⟨h, -⟩ | ⟨r, hr, h, -⟩ | ⟨-, h⟩
  · cases hro .cmd h
  · cases hr.symm.trans (hro r h)
  · exact h

theorem regWrite_ro {r : RegName} (hr : r.access = .ro) (v : Word) (s : State) :
    regWrite r.offset v s = .next s := by
  refine regWrite_ignored (fun r' h => ?_) v s
  obtain rfl : r = r' := Option.some.inj ((regAt_offset r).symm.trans (regAt_eq_some.mpr h))
  exact hr

/-- `dispatch` goes on from every state: it runs the decoded command, or marks the opcode illegal. -/
theorem dispatch_cases (v : Word) (s : State) :
    (∃ i, decode v = .ok i ∧ dispatch v s = .next (nextState i s)) ∨
      ∃ e, decode v = .error e ∧ dispatch v s = .next s.markIllegal := by
  cases hd : decode v with
  | ok i => exact .inl ⟨i, rfl, dispatch_ok hd s⟩
  | error e => exact .inr ⟨e, rfl, dispatch_error hd s⟩

/-- A write to any offset but CMD's is an operand write: where the host may not write, one of a read-only register, which
stores nothing. -/
theorem regWrite_of_ne_cmd (hoff : off ≠ 0x00) (v : Word) (s : State) :
    ∃ r : RegName, regWrite off v s = .next (writeOperand r v s) := by
  rcases regWrite_cases off v s with ⟨h, -⟩ | ⟨r, -, -, h⟩ | ⟨-, h⟩
  · exact absurd h hoff
  · exact ⟨r, h⟩
  · exact ⟨.status, h⟩

/-- A step answers a state with a property when each of the things it can do leaves one with it. -/
theorem exists_step {P : State → Prop}
    (idle : s.pending = [] → P s)
    (read : ∀ off rest, P ((s.setPending rest).answer (readValue (s.setPending rest) off)))
    (command : ∀ i rest, P (nextState i (s.setPending rest)))
    (illegal : ∀ rest, P (s.setPending rest).markIllegal)
    (operand : ∀ (r : RegName) v rest, s.pending = .host (.write r.offset v) :: rest →
      P (writeOperand r v (s.setPending rest)))
    (ignored : ∀ rest, P (s.setPending rest))
    (reset : ∀ rest, s.pending = .reset :: rest → P (s.setPending rest).applyReset) :
    ∃ t, step s = .next t ∧ P t := by
  rcases step_cases s with ⟨hp, h⟩ | ⟨e, rest, hp, hevent⟩
  · exact ⟨_, h, idle hp⟩
  · rcases hevent with ⟨off, -, h⟩ | ⟨v, i, -, -, h⟩ | ⟨v, err, -, -, h⟩ | ⟨r, v, -, rfl, h⟩ | ⟨off, v, -, -, h⟩ | ⟨rfl, h⟩
    · exact ⟨_, h, read off rest⟩
    · exact ⟨_, h, command i rest⟩
    · exact ⟨_, h, illegal rest⟩
    · exact ⟨_, h, operand r v rest hp⟩
    · exact ⟨_, h, ignored rest⟩
    · exact ⟨_, h, reset rest hp⟩

end StepRules

/-! ### What a PARSE keeps and sets -/

section ParseRules
variable (s : State)

@[simp] theorem parseState_rxbuf : (parseState s).rxbuf = s.rxbuf := by
  obtain ⟨-, -, -, -, -, h, -⟩ := parseState_frame s
  exact h

@[simp] theorem parseState_rxlen : (parseState s).rxlen = s.rxlen := by
  obtain ⟨-, -, -, -, -, -, h, -⟩ := parseState_frame s
  exact h

@[simp] theorem parseState_rxOvf : (parseState s).rxOvf = s.rxOvf := by
  obtain ⟨-, -, -, -, -, -, -, h, -⟩ := parseState_frame s
  exact h

@[simp] theorem parseState_txValid : (parseState s).txValid = s.txValid := by
  obtain ⟨-, -, -, -, -, -, -, -, -, -, h, -⟩ := parseState_frame s
  exact h

@[simp] theorem parseState_parsed : (parseState s).parsed = true := by
  obtain ⟨-, -, -, -, -, -, -, -, -, -, -, -, -, -, h⟩ := parseState_frame s
  exact h

theorem parseFail_measValid (e : ParseError) :
    (s.parseFail e).measValid = (s.measValid || (s.parseFail e).err == 0) := by
  cases e <;> simp [State.parseFail, ParseError.code]

/-- A PARSE sets MEAS_VALID exactly when it ends with ERR 0, and never clears it (10_state.md R25). -/
theorem parseState_measValid : (parseState s).measValid = (s.measValid || (parseState s).err == 0) := by
  rcases parseState_cases s with ⟨e, -, h⟩ | ⟨-, -, -, h⟩ | ⟨-, -, h⟩ <;> rw [h]
  · exact parseFail_measValid s.markLegal.markParsed e
  · exact parseFail_measValid (s.markLegal.markParsed.setCrc _) _
  · simp [State.parseAccept]

/-- While RX_OVF is set, check 0 fails before any other (42_parser.md R105). -/
theorem parseState_err_of_rxOvf (h : s.rxOvf = true) : (parseState s).err = 6 := by
  simp [parseState, checkFrame, checkOverflow, h, State.parseFail, ParseError.code]

end ParseRules

/-! ### What each command does to the flags and the buffer -/

section CommandRules
variable (i : Instr) (s : State)

theorem nextState_parsed : (nextState i s).parsed = (s.parsed || decide (i = .parse)) := by
  cases i
  case rxPush => simp only [nextState]; split <;> simp
  all_goals simp [nextState]

theorem nextState_measValid :
    (nextState i s).measValid = (s.measValid || (decide (i = .parse) && (nextState i s).err == 0)) := by
  cases i
  case parse => simpa [nextState] using parseState_measValid s
  case rxPush => simp only [nextState]; split <;> simp
  all_goals simp [nextState]

theorem nextState_txValid : (nextState i s).txValid = (s.txValid || decide (i = .build)) := by
  cases i
  case rxPush => simp only [nextState]; split <;> simp
  all_goals simp [nextState]

theorem nextState_rxOvf :
    (nextState i s).rxOvf =
      if i = .rxClear then false else if i = .rxPush ∧ s.rxCapacity ≤ s.rxlen then true else s.rxOvf := by
  cases i
  case rxPush => simp only [nextState]; split <;> simp_all
  all_goals simp [nextState]

/-- The bytes in the buffer: RX_CLEAR drops them, an RX_PUSH that fits adds one, and no other command touches them
(42_parser.md R102, R103). -/
theorem nextState_rxFrame :
    (nextState i s).frame =
      if i = .rxClear then [] else if i = .rxPush ∧ s.rxlen < s.rxCapacity then s.frame ++ [s.dataIn] else s.frame := by
  cases i
  case rxClear => exact State.frame_of_rxlen_zero rfl
  case rxPush =>
    by_cases h : s.rxlen < s.rxCapacity
    · simp only [nextState, h, if_true]
      exact State.frame_push s.markLegal s.dataIn
    · simp only [nextState, h, if_false]
      rfl
  case parse => exact State.frame_congr (parseState_rxbuf s) (parseState_rxlen s)
  all_goals rfl

end CommandRules

/-! ### Operand writes -/

section OperandRules
variable (r : RegName) (v : Word) (s : State)

@[simp] theorem writeOperand_rxCapacity : (writeOperand r v s).rxCapacity = s.rxCapacity := by cases r <;> rfl
@[simp] theorem writeOperand_rxOvf : (writeOperand r v s).rxOvf = s.rxOvf := by cases r <;> rfl
@[simp] theorem writeOperand_txValid : (writeOperand r v s).txValid = s.txValid := by cases r <;> rfl
@[simp] theorem writeOperand_parsed : (writeOperand r v s).parsed = s.parsed := by cases r <;> rfl
@[simp] theorem writeOperand_measValid : (writeOperand r v s).measValid = s.measValid := by cases r <;> rfl
@[simp] theorem writeOperand_illegal : (writeOperand r v s).illegal = s.illegal := by cases r <;> rfl

variable {r}

theorem writeOperand_ctrlStrict_of_ne (h : r ≠ .ctrl) : (writeOperand r v s).ctrlStrict = s.ctrlStrict := by
  cases r <;> simp [writeOperand] at h ⊢

theorem writeOperand_dataIn_of_ne (h : r ≠ .dataIn) : (writeOperand r v s).dataIn = s.dataIn := by
  cases r <;> simp [writeOperand] at h ⊢

theorem writeOperand_addrIn_of_ne (h : r ≠ .addrIn) : (writeOperand r v s).addrIn = s.addrIn := by
  cases r <;> simp [writeOperand] at h ⊢

theorem writeOperand_clsIn_of_ne (h : r ≠ .clsIn) : (writeOperand r v s).clsIn = s.clsIn := by
  cases r <;> simp [writeOperand] at h ⊢

end OperandRules

/-! ### Reserved bits and STATUS -/

/-- How many bits a register defines (10_state.md R20): the low ones, always. -/
def RegName.width : RegName → Nat
  | .cmd | .status | .dataIn | .rxCmd | .seq => 8
  | .txb0 | .txb1 | .txb2 | .txb3 | .txb4 | .txb5 | .txb6 | .txb7 | .txb8 => 8
  | .ctrl => 1
  | .addrIn | .clsIn | .crc | .rxAddr => 16
  | .txlen => 4
  | .diClass | .hsClass => 3
  | _ => 32

theorem RegName.definedBits_eq (r : RegName) : r.definedBits = (BitVec.allOnes r.width).setWidth 32 := by
  cases r <;> rfl

/-- Above its eight fields' bits STATUS is 0 (10_state.md R22). -/
theorem statusWord_getLsbD_of_le (s : State) {i : Nat} (hi : 8 ≤ i) : s.statusWord.getLsbD i = false := by
  simp only [State.statusWord, BitVec.getLsbD_append]
  iterate 6 rw [if_neg (by omega)]
  exact BitVec.getLsbD_zero

/-- A register reads 0 in the bits above its width: its field is zero-extended, or fills the word. -/
theorem readReg_getLsbD_of_width_le (s : State) (r : RegName) {i : Nat} (hi : r.width ≤ i) :
    (readReg s r).getLsbD i = false := by
  cases r
  case status => exact statusWord_getLsbD_of_le s hi
  case cmd => exact BitVec.getLsbD_zero
  all_goals simp_all [readReg, RegName.width]

/-- Bits a register does not define read as 0 (10_state.md R19). -/
theorem readReg_and_not_definedBits (s : State) (r : RegName) : readReg s r &&& ~~~r.definedBits = 0 := by
  rw [r.definedBits_eq]
  apply BitVec.eq_of_getLsbD_eq
  intro i hi
  by_cases hw : i < r.width
  · simp [hi, hw]
  · rw [BitVec.getLsbD_and, readReg_getLsbD_of_width_le s r (Nat.le_of_not_lt hw)]
    simp

/-- Masking a word to its low bits keeps those bits. -/
theorem extractLsb'_and_allOnes {w : Nat} (hw : w ≤ 32) (v : Word) :
    (v &&& (BitVec.allOnes w).setWidth 32).extractLsb' 0 w = v.extractLsb' 0 w := by
  apply BitVec.eq_of_getLsbD_eq
  intro i hi
  simp [hi, show i < 32 by omega]

theorem decode_and_definedBits (v : Word) : decode (v &&& RegName.cmd.definedBits) = decode v :=
  congrArg decodeOp (extractLsb'_and_allOnes (w := 8) (by decide) v)

theorem writeOperand_and_definedBits (r : RegName) (v : Word) (s : State) :
    writeOperand r (v &&& r.definedBits) s = writeOperand r v s := by
  cases r
  case ctrl => simp [writeOperand, RegName.definedBits]
  case dataIn => exact congrArg s.setDataIn (extractLsb'_and_allOnes (w := 8) (by decide) v)
  case addrIn => exact congrArg s.setAddrIn (extractLsb'_and_allOnes (w := 16) (by decide) v)
  case clsIn => exact congrArg s.setClsIn (extractLsb'_and_allOnes (w := 16) (by decide) v)
  all_goals rfl

/-- CMD is the one write-only register (10_state.md R20). -/
theorem eq_cmd_of_access_wo {r : RegName} (h : r.access = .wo) : r = .cmd := by
  cases r <;> cases h
  rfl

/-- A write to a register is the write of its defined bits (10_state.md R19). -/
theorem regWrite_and_definedBits (r : RegName) (v : Word) (s : State) :
    regWrite r.offset (v &&& r.definedBits) s = regWrite r.offset v s := by
  cases h : r.access with
  | rw => rw [regWrite_rw h, regWrite_rw h, writeOperand_and_definedBits]
  | ro => rw [regWrite_ro h, regWrite_ro h]
  | wo =>
    obtain rfl := eq_cmd_of_access_wo h
    rw [show RegName.cmd.offset = 0x00 from rfl, regWrite_cmd, regWrite_cmd, dispatch, decode_and_definedBits, dispatch]

/-- The reserved bits of STATUS read 0 (10_state.md R22). -/
theorem statusWord_reserved (s : State) : s.statusWord.extractLsb' 8 24 = 0 := by
  apply BitVec.eq_of_getLsbD_eq
  intro i _
  rw [BitVec.getLsbD_extractLsb', statusWord_getLsbD_of_le s (Nat.le_add_right 8 i)]
  simp

/-- The flags of STATUS, each in its bit (10_state.md R22). -/
theorem statusWord_flags (s : State) :
    s.statusWord.getLsbD 3 = s.parsed ∧ s.statusWord.getLsbD 4 = s.measValid ∧ s.statusWord.getLsbD 5 = s.txValid ∧
      s.statusWord.getLsbD 6 = s.illegal ∧ s.statusWord.getLsbD 7 = s.rxOvf := by
  simp only [State.statusWord, BitVec.getLsbD_append]
  simp

/-! ### Illegal opcodes -/

/-- An opcode decodes exactly when it is none of those R78 calls illegal. -/
theorem illegalOp_eq_false_iff (op : Byte) : illegalOp op.toNat = false ↔ ∃ i, decodeOp op = .ok i := by
  unfold decodeOp
  split
  case h_11 =>
    have hlt : op.toNat < 256 := op.isLt
    have hillegal : illegalOp op.toNat = true := by
      simp only [illegalOp, Bool.or_eq_true, Bool.and_eq_true, decide_eq_true_eq]
      simp only [imp_false] at *
      omega
    simp [hillegal]
  all_goals simp [*, illegalOp]

/-- A CMD write leaves in ILLEGAL whether its opcode is one of those R78 calls illegal (10_state.md R27). -/
theorem dispatch_illegal (v : Word) (s : State) :
    ∃ t, dispatch v s = .next t ∧ t.illegal = illegalOp (v.toNat % 256) := by
  have hop : v.toNat % 256 = (opOf v).toNat := by simp [opOf]
  have hiff := illegalOp_eq_false_iff (opOf v)
  rw [hop]
  rcases dispatch_cases v s with ⟨i, hi, h⟩ | ⟨e, he, h⟩
  · exact ⟨_, h, (nextState_illegal i s).trans (hiff.mpr ⟨i, hi⟩).symm⟩
  · refine ⟨_, h, ?_⟩
    have he' : decodeOp (opOf v) = .error e := he
    rw [he'] at hiff
    simpa using hiff

/-! ### CRC and the parser's outcome -/

theorem u8At_eq (d : List Byte) (i : Nat) : u8At d i = (byteAt d i).toNat := rfl

theorem u16At_eq (d : List Byte) (i : Nat) : u16At d i = (le16 d i).toNat := (le16_toNat d i).symm

/-- What an outcome of checks is reported as (42_parser.md R114), and `k` where none of them fails. -/
def report (o : Option ParseError) (k : Nat × Nat × Nat) : Nat × Nat × Nat :=
  match o with
  | some e => (e.code.toNat, e.diag0, e.diag1)
  | none => k

@[simp] theorem report_some (e : ParseError) (k : Nat × Nat × Nat) :
    report (some e) k = (e.code.toNat, e.diag0, e.diag1) := rfl

@[simp] theorem report_none (k : Nat × Nat × Nat) : report none k = k := rfl

/-- Checks made one after the other report the first failure. -/
theorem report_or (o p : Option ParseError) (k : Nat × Nat × Nat) : report (o.or p) k = report o (report p k) := by
  cases o <;> rfl

section Reports
variable (d : List Byte) (k : Nat × Nat × Nat)

theorem report_checkOverflow (ovf : Bool) (cap : Nat) :
    report (checkOverflow ovf cap d) k = if ovf then (6, d.length, cap) else k := by
  cases ovf <;> rfl

theorem report_checkHeader :
    report (checkHeader d) k = if d.length < 2 then (4, d.length, 2)
      else if u8At d 0 ≠ 0x52 ∨ u8At d 1 ≠ 0x42 then (1, u8At d 0, u8At d 1) else k := by
  have h0 : u8At d 0 = 0x52 ↔ byteAt d 0 = header0 := BitVec.toNat_inj (y := header0)
  have h1 : u8At d 1 = 0x42 ↔ byteAt d 1 = header1 := BitVec.toNat_inj (y := header1)
  simp only [checkHeader, ne_eq, h0, h1]
  split_ifs <;> rfl

theorem report_checkLength :
    report (checkLength d) k = if d.length < 4 then (4, d.length, 4)
      else if u16At d 2 ≠ d.length - 4 then (2, u16At d 2, d.length - 4) else k := by
  simp only [checkLength, u16At_eq]
  split_ifs <;> rfl

theorem report_checkAddress :
    report (checkAddress d) k = if d.length < 7 then (4, d.length, 7)
      else if u16At d 5 ≠ 0x5022 then (3, u16At d 5, 0x5022) else k := by
  have h5 : u16At d 5 = 0x5022 ↔ le16 d 5 = knownAddress := by
    rw [u16At_eq]
    exact BitVec.toNat_inj (y := knownAddress)
  simp only [checkAddress, ne_eq, h5]
  simp only [u16At_eq]
  split_ifs <;> rfl

theorem report_checkTruncation (strict : Bool) :
    report (checkTruncation strict d) k =
      if d.length < requiredLength strict then (4, d.length, requiredLength strict) else k := by
  simp only [checkTruncation]
  split_ifs <;> rfl

/-- The outcome R136 names is the report of checks 0 to 4, and of the checksum where they all pass. -/
theorem outcome_eq_report (ovf strict : Bool) (cap : Nat) :
    outcome ovf strict cap d = report (checkFrame ovf cap strict d)
      (if strict && badChecksum d then (5, u16At d (d.length - 2), (crc16 (d.take (d.length - 2))).toNat)
        else (0, 0, 0)) := by
  simp only [checkFrame, report_or, report_checkOverflow, report_checkHeader, report_checkLength, report_checkAddress,
    report_checkTruncation]
  rfl

end Reports

/-- Checks 0 to 4 never report a checksum mismatch. -/
theorem checkFrame_code_ne_five {ovf strict : Bool} {cap : Nat} {d : List Byte} {e : ParseError}
    (h : checkFrame ovf cap strict d = some e) : e.code ≠ 5 := by
  simp only [checkFrame, Option.or_eq_some_iff] at h
  rcases h with h | ⟨-, h | ⟨-, h | ⟨-, h | ⟨-, h⟩⟩⟩⟩
  all_goals
    simp only [checkOverflow, checkHeader, checkLength, checkAddress, checkTruncation] at h
    split_ifs at h <;> cases h <;> simp [ParseError.code]

/-- A PARSE reaches its checksum step in strict mode when checks 0 to 4 pass (42_parser.md R110). -/
theorem checksumReached_iff (s : State) :
    checksumReached s = true ↔
      s.strict = true ∧ checkFrame s.rxOvf s.rxCapacity s.strict s.frame = none := by
  have hout : outcomeOf s = report (checkFrame s.rxOvf s.rxCapacity s.strict s.frame) _ :=
    outcome_eq_report s.frame s.rxOvf s.strict s.rxCapacity
  simp only [checksumReached, hout]
  cases h : checkFrame s.rxOvf s.rxCapacity s.strict s.frame with
  | some e =>
    have h0 : e.code.toNat ≠ 0 := fun he => e.code_ne_zero (BitVec.eq_of_toNat_eq he)
    have h5 : e.code.toNat ≠ 5 := fun he => checkFrame_code_ne_five h (BitVec.eq_of_toNat_eq he)
    simp [h0, h5]
  | none =>
    simp only [report_none, and_true]
    split_ifs <;> simp [State.strict]

/-- CRC after a PARSE (42_parser.md R110, R112). -/
theorem parseState_crc (s : State) : (parseState s).crc = crcAfterParse s := by
  have hreached := checksumReached_iff s
  rcases parseState_cases s with ⟨e, hc, h⟩ | ⟨hc, hs, -, h⟩ | ⟨hc, -, h⟩ <;> rw [h, crcAfterParse]
  · simp [hreached, hc, State.parseFail]
  · simp [hreached.mpr ⟨hs, hc⟩, State.parseFail, computedCrc]
  · by_cases hs : s.strict = true
    · simp [hreached.mpr ⟨hs, hc⟩, hs, State.parseAccept, computedCrc]
    · simp [hreached, hs, State.parseAccept]

/-! ### Every state operation keeps the invariant -/

section InvariantRules
variable {s : State}

theorem Inv.setPending (h : Inv s) (es : List Event) : Inv (s.setPending es) := { h with }

theorem Inv.answer (h : Inv s) (v : Word) : Inv (s.answer v) := { h with }

theorem Inv.markLegal (h : Inv s) : Inv s.markLegal := { h with }

theorem Inv.markIllegal (h : Inv s) : Inv s.markIllegal := { h with }

theorem Inv.setCrc (h : Inv s) (c : Half) : Inv (s.setCrc c) := { h with }

/-- The invariant says nothing of the operand registers. -/
theorem Inv.writeOperand (h : Inv s) (r : RegName) (v : Word) : Inv (writeOperand r v s) := by
  cases r
  case ctrl | dataIn | addrIn | clsIn => exact { h with }
  all_goals exact h

/-- A reset keeps the capacity, and with it the invariant (70_reset_and_hazards.md R146). -/
theorem Inv.applyReset (h : Inv s) : Inv s.applyReset where
  capacity := h.capacity
  rxlen_le := Nat.zero_le _
  rxbuf_wf := List.Pairwise.nil
  rxbuf_inside := by simp
  rxbuf_pushed := by simp
  ovf_full := by simp
  txlen_legal := rfl
  tx_built := by simp
  tx_zero := fun _ => rfl
  err_legal := by simp
  unparsed := by simp
  accepted := by simp
  meas_address := by simp
  meas_zero := fun _ => rfl
  di_legal := rfl
  hs_legal := rfl
  meas_classified := by simp

/-- The empty buffer without overflow. -/
theorem Inv.clearRx (h : Inv s) : Inv ((s.setRxlen 0).setRxOvf false) :=
  { h with
    rxlen_le := Nat.zero_le _
    rxbuf_pushed := by simp
    ovf_full := by simp }

/-- A byte pushed while there is room: the buffer grows by the cell just written, and no overflow can be recorded. -/
theorem Inv.pushRx (h : Inv s) (hroom : s.rxlen < s.rxCapacity) (b : Byte) :
    Inv ((s.storeRx s.rxlen b).setRxlen (s.rxlen + 1)) :=
  { h with
    rxlen_le := hroom
    rxbuf_wf := Memory.wf_write h.rxbuf_wf _ _
    rxbuf_inside := Memory.inside_write h.rxbuf_inside hroom
    rxbuf_pushed := by
      intro i hi
      have hle : i ≤ s.rxlen := Nat.lt_succ_iff.mp hi
      simp only [State.setRxlen_rxbuf, State.storeRx_rxbuf, Memory.read?_write]
      split
      · rfl
      · exact h.rxbuf_pushed i (by omega)
    ovf_full := fun hovf => absurd (h.ovf_full hovf) hroom.ne }

/-- The overflow flag on a full buffer. -/
theorem Inv.overflowRx (h : Inv s) (hfull : ¬s.rxlen < s.rxCapacity) : Inv (s.setRxOvf true) :=
  { h with ovf_full := fun _ => Nat.le_antisymm h.rxlen_le (Nat.le_of_not_lt hfull) }

/-- A built request, with TXLEN and TX_VALID. -/
theorem Inv.buildTx (h : Inv s) (a : Half) : Inv (s.setTx (buildRequest a)).markTxValid :=
  { h with
    txlen_legal := rfl
    tx_built := fun _ => ⟨a, rfl⟩
    tx_zero := fun hno => by simp at hno }

theorem DiCategory.code_legal (c : DiCategory) : legalDiCode c.code = true ∧ c.code ≠ 7 := by
  cases c <;> decide

theorem HsCategory.code_legal (c : HsCategory) : legalHsCode c.code = true ∧ c.code ≠ 7 := by
  cases c <;> decide

theorem Inv.setDiClass (h : Inv s) (c : DiCategory) : Inv (s.setDiClass c.code) :=
  { h with
    di_legal := c.code_legal.1
    meas_classified := fun hm => ⟨c.code_legal.2, (h.meas_classified hm).2⟩ }

theorem Inv.setHsClass (h : Inv s) (c : HsCategory) : Inv (s.setHsClass c.code) :=
  { h with
    hs_legal := c.code_legal.1
    meas_classified := fun hm => ⟨(h.meas_classified hm).1, c.code_legal.2⟩ }

/-- A failed PARSE: its code is neither 7 nor the 0 of a success (42_parser.md R113). -/
theorem Inv.parseFail (h : Inv s) (e : ParseError) : Inv (s.markParsed.parseFail e) :=
  { h with
    err_legal := e.code_ne_seven
    unparsed := fun hno => by simp [State.parseFail] at hno
    accepted := fun _ h0 => absurd h0 e.code_ne_zero }

/-- A successful PARSE: both classes are set, and the address check has passed (42_parser.md R112). -/
theorem Inv.parseAccept (h : Inv s) {d : List Byte} (haddr : le16 d 5 = knownAddress) :
    Inv (s.markParsed.parseAccept d) :=
  { (h.setDiClass (classDi (le16 d 24).toInt)).setHsClass (classHs (le16 d 26).toInt) with
    err_legal := by simp [State.parseAccept]
    unparsed := fun hno => by simp [State.parseAccept] at hno
    accepted := fun _ _ => ⟨rfl, rfl, rfl⟩
    meas_address := fun _ => haddr
    meas_zero := fun hno => by simp [State.parseAccept] at hno
    meas_classified := fun _ => ⟨(classDi _).code_legal.2, (classHs _).code_legal.2⟩ }

theorem Inv.parseState (h : Inv s) : Inv (parseState s) := by
  rcases parseState_cases s with ⟨e, -, heq⟩ | ⟨-, -, -, heq⟩ | ⟨hnone, -, heq⟩ <;> rw [heq]
  · exact h.markLegal.parseFail e
  · exact (h.markLegal.setCrc _).parseFail _
  · obtain ⟨-, -, -, -, haddr, -⟩ := checkFrame_none.mp hnone
    split
    · exact (h.markLegal.setCrc _).parseAccept haddr
    · exact h.markLegal.parseAccept haddr

/-- Every command keeps the invariant. -/
theorem Inv.nextState (h : Inv s) (i : Instr) : Inv (nextState i s) := by
  have hl := h.markLegal
  cases i with
  | nop => exact hl
  | crcInit | crcByte | crcRx => exact hl.setCrc _
  | rxClear => exact hl.clearRx
  | rxPush =>
    simp only [Machine.nextState]
    split
    · exact hl.pushRx ‹_› _
    · exact hl.overflowRx ‹_›
  | build => exact (hl.buildTx _).setCrc _
  | parse => exact h.parseState
  | clsDi => exact hl.setDiClass _
  | clsHs => exact hl.setHsClass _

end InvariantRules

/-! ### What a command takes from the state (30_encoding.md R57) -/

/-- Two runs, from `s₁` to `t₁` and from `s₂` to `t₂`, as R57 compares them in one observation: it ends equal in both,
or unchanged in both. -/
def AlikeOrKept {α : Type} (g : State → α) (s₁ t₁ s₂ t₂ : State) : Prop :=
  g t₁ = g t₂ ∨ (g t₁ = g s₁ ∧ g t₂ = g s₂)

/-- Alike or kept composes: what the second part makes alike is alike, and what it keeps is as the first part left it. -/
theorem AlikeOrKept.trans {α : Type} {g : State → α} {s₁ t₁ u₁ s₂ t₂ u₂ : State}
    (h : AlikeOrKept g s₁ t₁ s₂ t₂) (h' : AlikeOrKept g t₁ u₁ t₂ u₂) : AlikeOrKept g s₁ u₁ s₂ u₂ := by
  rcases h' with h' | ⟨h₁, h₂⟩
  · exact .inl h'
  · rcases h with h | ⟨h₁', h₂'⟩
    · exact .inl (by rw [h₁, h₂, h])
    · exact .inr ⟨h₁.trans h₁', h₂.trans h₂'⟩

/-- An update of the state that takes nothing from the state it updates, as far as the host can see: from any two states
every register but STATUS, and every flag of STATUS, ends equal in both or unchanged in both. -/
structure Blind (f : State → State) : Prop where
  reg : ∀ s₁ s₂ (r : RegName), r ≠ .status → AlikeOrKept (readReg · r) s₁ (f s₁) s₂ (f s₂) := by
    intro s₁ s₂ r hr
    cases r <;> simp [AlikeOrKept, readReg] at hr ⊢
  err : ∀ s₁ s₂, AlikeOrKept State.err s₁ (f s₁) s₂ (f s₂) := by simp [AlikeOrKept]
  parsed : ∀ s₁ s₂, AlikeOrKept State.parsed s₁ (f s₁) s₂ (f s₂) := by simp [AlikeOrKept]
  measValid : ∀ s₁ s₂, AlikeOrKept State.measValid s₁ (f s₁) s₂ (f s₂) := by simp [AlikeOrKept]
  txValid : ∀ s₁ s₂, AlikeOrKept State.txValid s₁ (f s₁) s₂ (f s₂) := by simp [AlikeOrKept]

theorem Blind.comp {f g : State → State} (hg : Blind g) (hf : Blind f) : Blind fun s => g (f s) where
  reg s₁ s₂ r hr := (hf.reg s₁ s₂ r hr).trans (hg.reg _ _ r hr)
  err s₁ s₂ := (hf.err s₁ s₂).trans (hg.err _ _)
  parsed s₁ s₂ := (hf.parsed s₁ s₂).trans (hg.parsed _ _)
  measValid s₁ s₂ := (hf.measValid s₁ s₂).trans (hg.measValid _ _)
  txValid s₁ s₂ := (hf.txValid s₁ s₂).trans (hg.txValid _ _)

section BlindUpdates

theorem blind_markLegal : Blind State.markLegal := {}

theorem blind_markParsed : Blind State.markParsed := {}

theorem blind_markMeasValid : Blind State.markMeasValid := {}

theorem blind_markTxValid : Blind State.markTxValid := {}

theorem blind_setCrc (c : Half) : Blind (State.setCrc c) := {}

theorem blind_storeRx (i : Nat) (b : Byte) : Blind (State.storeRx i b) := {}

theorem blind_setRxlen (n : Nat) : Blind (State.setRxlen n) := {}

theorem blind_setRxOvf (b : Bool) : Blind (State.setRxOvf b) := {}

theorem blind_setTx (b : Vector Byte 9) : Blind (State.setTx b) := {}

theorem blind_setMeas (m : Measurement) : Blind (State.setMeas m) := {}

theorem blind_setDiClass (c : BitVec 3) : Blind (State.setDiClass c) := {}

theorem blind_setHsClass (c : BitVec 3) : Blind (State.setHsClass c) := {}

theorem blind_setOutcome (c : BitVec 3) (a b : Nat) : Blind (State.setOutcome c a b) := {}

theorem blind_parseFail (e : ParseError) : Blind (State.parseFail e) := blind_setOutcome _ _ _

theorem blind_parseAccept (d : List Byte) : Blind (State.parseAccept d) :=
  blind_markMeasValid.comp <| (blind_setOutcome _ _ _).comp <| (blind_setHsClass _).comp <|
    (blind_setDiClass _).comp (blind_setMeas _)

theorem blind_parseChecked (strict : Bool) (d : List Byte) : Blind (State.parseChecked strict d) := by
  unfold State.parseChecked
  split_ifs
  · exact (blind_parseFail _).comp (blind_setCrc _)
  · exact (blind_parseAccept d).comp (blind_setCrc _)
  · exact blind_parseAccept d

end BlindUpdates

/-- What a command does is an update its operands alone determine: states that agree on them undergo the same one
(10_state.md R57). -/
theorem nextState_blind {i : Instr} {s₁ s₂ : State} (h : SameOperands i s₁ s₂) :
    ∃ f, Blind f ∧ nextState i s₁ = f s₁ ∧ nextState i s₂ = f s₂ := by
  obtain ⟨hctrl, hdata, haddr, hcls, hlen, hframe, hovf, hcap, hcrc⟩ := h
  cases i with
  | nop => exact ⟨_, blind_markLegal, rfl, rfl⟩
  | crcInit => exact ⟨_, (blind_setCrc crcStart).comp blind_markLegal, rfl, rfl⟩
  | crcByte =>
    refine ⟨_, (blind_setCrc (crcUpdate s₁.crc s₁.dataByte)).comp blind_markLegal, rfl, ?_⟩
    simp only [nextState, State.dataByte, hdata, hcrc rfl]
  | crcRx =>
    refine ⟨_, (blind_setCrc (crc16 s₁.frame)).comp blind_markLegal, rfl, ?_⟩
    simp only [nextState, hframe]
  | rxClear => exact ⟨_, (blind_setRxOvf false).comp <| (blind_setRxlen 0).comp blind_markLegal, rfl, rfl⟩
  | rxPush =>
    by_cases hroom : s₁.rxlen < s₁.rxCapacity
    · refine ⟨_, (blind_setRxlen (s₁.rxlen + 1)).comp <| (blind_storeRx s₁.rxlen s₁.dataByte).comp blind_markLegal,
        if_pos hroom, ?_⟩
      rw [hlen, hcap] at hroom
      simp only [nextState, State.dataByte, hdata, hlen, if_pos hroom]
    · refine ⟨_, (blind_setRxOvf true).comp blind_markLegal, if_neg hroom, ?_⟩
      rw [hlen, hcap] at hroom
      exact if_neg hroom
  | build =>
    refine ⟨_, (blind_setCrc (requestCrc s₁.requestAddress)).comp <| blind_markTxValid.comp <|
      (blind_setTx (buildRequest s₁.requestAddress)).comp blind_markLegal, rfl, ?_⟩
    simp only [nextState, State.requestAddress, haddr]
  | parse =>
    have hbegun := blind_markParsed.comp blind_markLegal
    cases hc : checkFrame s₂.rxOvf s₂.rxCapacity s₂.ctrlStrict s₂.frame with
    | some e =>
      refine ⟨_, (blind_parseFail e).comp hbegun, ?_, ?_⟩ <;>
        simp only [nextState, parseState, State.strict, hctrl, hframe, hovf, hcap, hc]
    | none =>
      refine ⟨_, (blind_parseChecked s₂.ctrlStrict s₂.frame).comp hbegun, ?_, ?_⟩ <;>
        simp only [nextState, parseState, State.strict, hctrl, hframe, hovf, hcap, hc]
  | clsDi =>
    refine ⟨_, (blind_setDiClass (classDi s₁.clsValue).code).comp blind_markLegal, rfl, ?_⟩
    simp only [nextState, State.clsValue, hcls]
  | clsHs =>
    refine ⟨_, (blind_setHsClass (classHs s₁.clsValue).code).comp blind_markLegal, rfl, ?_⟩
    simp only [nextState, State.clsValue, hcls]

/-! ### Bytes of RXBUF at or above RXLEN -/

section Unobservable

variable {s t : State}

/-- The two states read alike: no register shows a byte of RXBUF. -/
theorem readValue_of_sameVisible (h : SameVisible s t) (off : Byte) : readValue t off = readValue s off := by
  obtain ⟨-, ht⟩ := h
  rw [ht, readValue, readValue]
  cases regAt off with
  | none => rfl
  | some r => cases r <;> rfl

/-- No command looks beyond RXLEN: CRC_RX and PARSE read the frame, and an RX_PUSH stores the same byte in both. -/
theorem sameVisible_nextState (h : SameVisible s t) (i : Instr) : SameVisible (nextState i s) (nextState i t) := by
  obtain ⟨hframe, ht⟩ := h
  generalize t.rxbuf = b at ht
  subst ht
  refine ⟨by simp only [nextState_rxFrame, hframe], ?_⟩
  cases i with
  | crcRx => simp only [nextState, ← hframe]; rfl
  | rxPush => simp only [nextState]; split <;> rfl
  | parse =>
    simp only [nextState, parseState, State.strict, ← hframe]
    split
    · rfl
    · unfold State.parseChecked
      split_ifs <;> rfl
  | _ => rfl

theorem sameVisible_setPending (h : SameVisible s t) (es : List Event) :
    SameVisible (s.setPending es) (t.setPending es) := by
  obtain ⟨hframe, ht⟩ := h
  exact ⟨hframe, by rw [ht]; rfl⟩

theorem sameVisible_answer (h : SameVisible s t) (v : Word) : SameVisible (s.answer v) (t.answer v) := by
  obtain ⟨hframe, ht⟩ := h
  exact ⟨hframe, by rw [ht]; rfl⟩

theorem sameVisible_markIllegal (h : SameVisible s t) : SameVisible s.markIllegal t.markIllegal := by
  obtain ⟨hframe, ht⟩ := h
  exact ⟨hframe, by rw [ht]; rfl⟩

theorem sameVisible_writeOperand (h : SameVisible s t) (r : RegName) (v : Word) :
    SameVisible (writeOperand r v s) (writeOperand r v t) := by
  obtain ⟨hframe, ht⟩ := h
  constructor
  · cases r <;> exact hframe
  · rw [ht]
    cases r <;> rfl

theorem sameVisible_applyReset (h : SameVisible s t) : SameVisible s.applyReset t.applyReset := by
  obtain ⟨-, ht⟩ := h
  exact ⟨rfl, by rw [ht]; rfl⟩

theorem sameVisible_dispatch (h : SameVisible s t) (v : Word) :
    ∃ s' t', dispatch v s = .next s' ∧ dispatch v t = .next t' ∧ SameVisible s' t' := by
  cases hd : decode v with
  | ok i => exact ⟨_, _, dispatch_ok hd s, dispatch_ok hd t, sameVisible_nextState h i⟩
  | error e => exact ⟨_, _, dispatch_error hd s, dispatch_error hd t, sameVisible_markIllegal h⟩

theorem sameVisible_regWrite (h : SameVisible s t) (off : Byte) (v : Word) :
    ∃ s' t', regWrite off v s = .next s' ∧ regWrite off v t = .next t' ∧ SameVisible s' t' := by
  rcases offset_cases off with rfl | ⟨r, hr, rfl⟩ | hro
  · simpa only [regWrite_cmd] using sameVisible_dispatch h v
  · exact ⟨_, _, regWrite_rw hr v s, regWrite_rw hr v t, sameVisible_writeOperand h r v⟩
  · exact ⟨_, _, regWrite_ignored hro v s, regWrite_ignored hro v t, h⟩

/-- One step keeps the two states alike in all but such bytes: the same event is next in both. -/
theorem sameVisible_step (h : SameVisible s t) :
    ∃ s' t', step s = .next s' ∧ step t = .next t' ∧ SameVisible s' t' := by
  have hpending : t.pending = s.pending := by rw [h.2]
  cases hp : s.pending with
  | nil => exact ⟨s, t, step_nil hp, step_nil (hpending.trans hp), h⟩
  | cons e rest =>
    rw [step_cons hp, step_cons (hpending.trans hp)]
    have hrest := sameVisible_setPending h rest
    match e with
    | .host (.read off) =>
      refine ⟨_, _, rfl, rfl, ?_⟩
      simp only [regRead, readValue_of_sameVisible hrest off]
      exact sameVisible_answer hrest _
    | .host (.write off v) => exact sameVisible_regWrite hrest off v
    | .reset => exact ⟨_, _, rfl, rfl, sameVisible_applyReset hrest⟩

end Unobservable

/-! ### The obligations -/

/-- Settles O50: both states undergo one and the same blind update. -/
theorem resultsDependOnOperandsAlone : Obligations.ResultsDependOnOperandsAlone := by
  intro i s₁ s₂ h
  obtain ⟨f, hf, h₁, h₂⟩ := nextState_blind h
  obtain ⟨-, hdata, -, -, hlen, hframe, hovf, hcap, -⟩ := h
  have hframe' : (nextState i s₁).frame = (nextState i s₂).frame := by
    simp only [nextState_rxFrame, hdata, hlen, hframe, hcap]
  refine ⟨_, _, exec_eq i s₁, exec_eq i s₂, ?_, ?_, ?_, ?_, ?_, ?_, ?_, ?_, hframe'⟩
  · rw [h₁, h₂]
    exact hf.reg s₁ s₂
  · rw [h₁, h₂]
    exact hf.err s₁ s₂
  · rw [h₁, h₂]
    exact hf.parsed s₁ s₂
  · rw [h₁, h₂]
    exact hf.measValid s₁ s₂
  · rw [h₁, h₂]
    exact hf.txValid s₁ s₂
  · simp
  · simp only [nextState_rxOvf, hlen, hovf, hcap]
  · simpa using congrArg List.length hframe'

/-- Settles O51, by induction on the number of steps. -/
theorem unspecifiedBytesAreUnobservable : Obligations.UnspecifiedBytesAreUnobservable := by
  intro n
  induction n with
  | zero => exact fun s t h => ⟨s, t, rfl, rfl, h⟩
  | succ n ih =>
    intro s t h
    obtain ⟨s', t', hs, ht, h'⟩ := sameVisible_step h
    obtain ⟨s'', t'', hs', ht', h''⟩ := ih s' t' h'
    refine ⟨s'', t'', ?_, ?_, h''⟩
    · simpa [Host.Core.run, core, hs] using hs'
    · simpa [Host.Core.run, core, ht] using ht'

/-- Settles O60: whatever the next event is, the state operations it runs keep the invariant. -/
theorem stepKeepsTheInvariant : Obligations.StepKeepsTheInvariant := by
  intro s t hinv hstep
  have hset (rest) := hinv.setPending rest
  obtain ⟨t', hstep', hinv'⟩ := exists_step (s := s) (P := Inv)
    (idle := fun _ => hinv)
    (read := fun _ rest => (hset rest).answer _)
    (command := fun i rest => (hset rest).nextState i)
    (illegal := fun rest => (hset rest).markIllegal)
    (operand := fun r v rest _ => (hset rest).writeOperand r v)
    (ignored := hset)
    (reset := fun rest _ => (hset rest).applyReset)
  obtain rfl : t' = t := Host.Outcome.next.inj (hstep'.symm.trans hstep)
  exact hinv'

/-- Settles O8: a register's defined bits are its low ones, and a write stores no others. -/
theorem reservedBitsAndReadOnlyRegisters : Obligations.ReservedBitsAndReadOnlyRegisters := by
  intro s rest r v
  have hstep (w : Word) : step { s with pending := .host (.write r.offset w) :: rest } =
      regWrite r.offset w (s.setPending rest) := step_write rfl
  refine ⟨readReg_and_not_definedBits s r, ?_, fun hro => (hstep v).trans (regWrite_ro hro v _), readValue_offset s .cmd⟩
  rw [hstep, hstep, regWrite_and_definedBits]

/-- Settles O52: by what each command does to the three flags, and each step that is no reset. -/
theorem stickyFlagsAreClearedOnlyByReset : Obligations.StickyFlagsAreClearedOnlyByReset := by
  refine ⟨fun i s => ⟨_, exec_eq i s, nextState_parsed i s, nextState_measValid i s, nextState_txValid i s⟩,
    fun s rest => ⟨(s.setPending rest).applyReset, step_reset rfl, rfl, rfl, rfl⟩, fun s hreset => ?_⟩
  apply exists_step
  case command => simp +contextual [nextState_parsed, nextState_measValid, nextState_txValid]
  case reset => exact fun rest hp => absurd (by simp [hp]) hreset
  all_goals simp

/-- Settles O53: a CMD write decides ILLEGAL by its opcode; any other access is a read or an operand write. -/
theorem illegalDescribesTheLastCommand : Obligations.IllegalDescribesTheLastCommand := by
  refine fun s rest => ⟨fun v => ?_, fun off => ⟨_, step_read rfl, rfl⟩, fun off v hoff => ?_⟩
  · rw [step_write rfl, regWrite_cmd]
    exact dispatch_illegal v _
  · obtain ⟨r, hr⟩ := regWrite_of_ne_cmd hoff v (s.setPending rest)
    exact ⟨_, (step_write rfl).trans hr, by simp⟩

/-- Settles O54: by what each command does to RX_OVF; any access but a CMD write is a read or an operand write. -/
theorem overflowFlagLifecycle : Obligations.OverflowFlagLifecycle := by
  intro s hle
  refine ⟨fun i => ⟨_, exec_eq i s, ?_⟩, fun hovf => ⟨_, exec_eq .parse s, parseState_err_of_rxOvf s hovf⟩,
    fun rest => ⟨_, step_reset rfl, rfl⟩, fun rest op hop => ?_⟩
  · have hfull : s.rxCapacity ≤ s.rxlen ↔ s.rxlen = s.rxCapacity := ⟨fun h => Nat.le_antisymm hle h, fun h => h.ge⟩
    simp only [nextState_rxOvf, hfull]
  · cases op with
    | read off => exact ⟨_, step_read rfl, rfl⟩
    | write off v =>
      obtain ⟨r, hr⟩ := regWrite_of_ne_cmd (fun h => hop v (h ▸ rfl)) v (s.setPending rest)
      exact ⟨_, (step_write rfl).trans hr, by simp⟩

/-- Settles O55: nothing a step can do changes the capacity. -/
theorem capacityIsConstant : Obligations.CapacityIsConstant := by
  have hread (t : State) : readValue t 0x64 = BitVec.ofNat 32 t.rxCapacity := readValue_offset t .rxcap
  refine ⟨fun s => ?_, fun cap => hread _⟩
  simp only [hread]
  apply exists_step <;> simp

/-- Settles O56: the one thing a step can do to an operand register, a reset aside, is the operand write of its offset. -/
theorem operandRegistersBelongToTheHost : Obligations.OperandRegistersBelongToTheHost := by
  refine ⟨fun i s => ⟨_, exec_eq i s, by simp⟩, fun s hreset => ?_⟩
  apply exists_step
  case operand =>
    intro r v rest hp
    simp only [hp, List.head?_cons]
    refine ⟨fun hne => ?_, fun hne => ?_, fun hne => ?_, fun hne => ?_⟩
    · obtain rfl : r = .ctrl := by_contra fun hr => hne (writeOperand_ctrlStrict_of_ne v _ hr)
      exact ⟨v, rfl⟩
    · obtain rfl : r = .dataIn := by_contra fun hr => hne (writeOperand_dataIn_of_ne v _ hr)
      exact ⟨v, rfl⟩
    · obtain rfl : r = .addrIn := by_contra fun hr => hne (writeOperand_addrIn_of_ne v _ hr)
      exact ⟨v, rfl⟩
    · obtain rfl : r = .clsIn := by_contra fun hr => hne (writeOperand_clsIn_of_ne v _ hr)
      exact ⟨v, rfl⟩
  case reset => exact fun rest hp => absurd (by simp [hp]) hreset
  all_goals simp

/-- Settles O57, command by command; for PARSE, by the report of its checks. -/
theorem crcRegisterWriters : Obligations.CrcRegisterWriters := by
  refine ⟨fun i s => ⟨_, exec_eq i s, ?_⟩, fun cap => readValue_offset _ .crc⟩
  cases i
  case parse =>
    simp only [nextState, parseState_crc, crcAfterParse]
    cases checksumReached s <;> simp
  case rxPush =>
    simp only [nextState]
    split <;> simp
  case build => simp [nextState, buildRequest_toList, requestCrc, requestBody, State.requestAddress]
  all_goals simp [nextState, crcStart, State.dataByte]

/-- Settles O5: the model's idle step. -/
theorem nothingPendingChangesNothing : Obligations.NothingPendingChangesNothing := fun _ => step_nil

/-- Settles O9: the fields of the STATUS word, and that a write of a read-only register is ignored. -/
theorem statusWordLayout : Obligations.StatusWordLayout := by
  intro s rest v
  obtain ⟨hparsed, hmeas, htx, hillegal, hovf⟩ := statusWord_flags s
  have hread : readValue s 0x04 = s.statusWord := readValue_offset s .status
  rw [hread]
  exact ⟨BitVec.extractLsb'_append_eq_right, hparsed, hmeas, htx, hillegal, hovf, statusWord_reserved s,
    (step_write rfl).trans (regWrite_ro (r := .status) rfl v _)⟩

end Sys2Proof.Machine

/-! PROOFS. The host port's window (20_memory.md) and the field layout of a response (30_encoding.md R84). -/

namespace Sys2Proof.Machine

/-! ### Offsets without a register -/

/-- The registers lie in the two ranges of R20. -/
theorem RegName.offset_inRange (r : RegName) :
    r.offset.toNat ≤ 0x64 ∨ (0x80 ≤ r.offset.toNat ∧ r.offset.toNat ≤ 0xA0) := by
  cases r <;> decide

/-- A misaligned offset, and one outside the two ranges, is no register's (20_memory.md R65). -/
theorem RegName.offset_ne_of_unmapped {off : Byte}
    (h : off.toNat % 4 ≠ 0 ∨ ¬(off.toNat ≤ 0x64 ∨ (0x80 ≤ off.toNat ∧ off.toNat ≤ 0xA0))) (r : RegName) :
    r.offset ≠ off := by
  rintro rfl
  exact h.elim (fun hmis => hmis r.offset_aligned) (fun hout => hout r.offset_inRange)

/-- Settles O7: such an offset names no register to read or to write. -/
theorem unmappedAndMisalignedAccessesDoNothing : Obligations.UnmappedAndMisalignedAccessesDoNothing := by
  intro s rest off v hoff
  have hno := RegName.offset_ne_of_unmapped hoff
  constructor
  · rw [step_read rfl, readValue_unmapped hno]
    rfl
  · rw [step_write rfl, regWrite_ignored fun r hr => absurd hr.symm (hno r)]
    rfl

/-! ### A command and the read behind it -/

/-- A run begins with a step. -/
theorem run_succ_of_step {s t : State} (h : step s = .next t) (n : Nat) :
    Host.Core.run core (n + 1) s = Host.Core.run core n t := by
  simp [Host.Core.run, core, h]

/-- Settles O12: the command leaves the read pending, and the read sees the state the command left. -/
theorem resultsAreReadableAtOnce : Obligations.ResultsAreReadableAtOnce := by
  intro s v i off hv
  let t := nextState i (s.setPending [.host (.read off)])
  have hwrite : step { s with pending := [.host (.write 0x00 v), .host (.read off)] } = .next t := by
    rw [step_write rfl, regWrite_cmd]
    exact dispatch_ok hv _
  have hread : step t = .next ((t.setPending []).answer (readValue t off)) := by
    rw [step_read (nextState_pending i _), readValue_setPending]
  have hreads : t.reads = s.reads := nextState_reads i _
  refine ⟨t, exec_eq i _, ?_⟩
  rw [run_succ_of_step hwrite, run_succ_of_step hread, ← hreads]
  rfl

/-! ### The fields of a response -/

/-- The last field ends with byte 27, before the checksum of the shortest strict frame (30_encoding.md R84). -/
theorem Field.offset_add_width_le (f : Field) : f.offset + f.width ≤ 28 := by
  cases f <;> decide

/-- Every field is in the list of R84. -/
theorem Field.mem_all (f : Field) : f ∈ Field.all := by cases f <;> decide

/-- Settles O17: the layout is a finite table, and its end does not depend on the frame. -/
theorem fieldsDoNotOverlap : Obligations.FieldsDoNotOverlap :=
  ⟨by decide, Field.mem_all, fun _ f hn => f.offset_add_width_le.trans (Nat.le_sub_of_add_le hn)⟩

end Sys2Proof.Machine

/-! PROOFS. The command word (30_encoding.md R75 to R79): the opcode map both ways, and the words around it. -/

namespace Sys2Proof

open Machine Claims

/-! ### The opcode map -/

/-- The decoder's table and the encoder's are one map (R77). -/
theorem decodeOp_eq_ok_iff {op : Byte} {i : Instr} : decodeOp op = .ok i ↔ op = i.opcode := by
  constructor
  · intro h
    unfold decodeOp at h
    split at h <;> cases h <;> exact BitVec.eq_of_toNat_eq ‹_›
  · rintro rfl
    cases i <;> rfl

/-- What the decoder does not know it rejects by name (R78). -/
theorem decodeOp_cases (op : Byte) :
    (∃ i, decodeOp op = .ok i) ∨ decodeOp op = .error (.illegalOpcode op) := by
  unfold decodeOp
  split
  case h_11 => exact .inr rfl
  all_goals exact .inl ⟨_, rfl⟩

theorem decode_eq_ok_iff {v : Word} {i : Instr} : decode v = .ok i ↔ opOf v = i.opcode := decodeOp_eq_ok_iff

theorem opOf_toNat (v : Word) : (opOf v).toNat = v.toNat % 256 := by simp [opOf]

theorem decode_of_illegalOp {v : Word} (h : illegalOp (v.toNat % 256) = true) :
    decode v = .error (.illegalOpcode (opOf v)) := by
  rw [← opOf_toNat] at h
  refine (decodeOp_cases (opOf v)).resolve_left fun hok => ?_
  rw [(illegalOp_eq_false_iff (opOf v)).mpr hok] at h
  cases h

theorem exists_decode_of_not_illegalOp {v : Word} (h : illegalOp (v.toNat % 256) = false) : ∃ i, decode v = .ok i :=
  (illegalOp_eq_false_iff (opOf v)).mp (opOf_toNat v ▸ h)

/-- The rows of R77 are the commands with their opcodes. -/
theorem mem_opcodeMap_iff {n : Nat} {i : Instr} : (n, i) ∈ opcodeMap ↔ n = i.opcode.toNat := by
  cases i <;> simp [opcodeMap, Instr.opcode]

/-- Settles O13: both tables are the encoder's, read backwards. -/
theorem opcodeAloneSelectsTheCommand : Obligations.OpcodeAloneSelectsTheCommand := by
  intro v i
  rw [decode_eq_ok_iff, mem_opcodeMap_iff, ← opOf_toNat, BitVec.toNat_inj]

/-! ### Words and their bytes -/

/-- The ignored bits are no part of the opcode (R75). -/
theorem opOf_append (high : BitVec 24) (op : Byte) : opOf (high ++ op) = op := BitVec.extractLsb'_append_eq_right

theorem opOf_encode (i : Instr) : opOf (encode i) = i.opcode := by cases i <;> rfl

theorem decode_encode (i : Instr) : decode (encode i) = .ok i := decode_eq_ok_iff.mpr (opOf_encode i)

/-- A word is its four bytes, the low one last (20_memory.md R61). -/
theorem append_bytes (v : Word) :
    v.extractLsb' 24 8 ++ v.extractLsb' 16 8 ++ v.extractLsb' 8 8 ++ v.extractLsb' 0 8 = v := by
  rw [BitVec.extractLsb'_append_extractLsb'_eq_extractLsb' (show 24 = 16 + 8 from rfl),
    BitVec.extractLsb'_append_extractLsb'_eq_extractLsb' (show 16 = 8 + 8 from rfl),
    BitVec.extractLsb'_append_extractLsb'_eq_extractLsb' (show 8 = 0 + 8 from rfl)]
  exact BitVec.extractLsb'_eq_self

theorem decodeBytes_wordBytes (v : Word) : decodeBytes (wordBytes v) = decode v := congrArg decode (append_bytes v)

/-- Settles O14: the opcode is all that the decoder looks at, and the bytes of a word are the word. -/
theorem decodeGivesBackTheEncodedCommand : Obligations.DecodeGivesBackTheEncodedCommand := by
  intro i high _
  have hword : decode (high ++ opOf (encode i)) = .ok i :=
    decode_eq_ok_iff.mpr ((opOf_append high _).trans (opOf_encode i))
  exact ⟨decode_encode i, hword, (decodeBytes_wordBytes _).trans hword⟩

/-- Settles O15: the decoder rejects exactly the opcodes of R78, and then the port sets ILLEGAL. -/
theorem illegalOpcodesOnlySetIllegal : Obligations.IllegalOpcodesOnlySetIllegal := by
  refine ⟨by decide +kernel, fun s rest v hv => ⟨decode_of_illegalOp hv, ?_⟩, fun _ => exists_decode_of_not_illegalOp,
    fun s i => ⟨_, exec_eq i _, nextState_illegal i _⟩, decode_encode .crcByte, fun _ => rfl⟩
  rw [step_write rfl, regWrite_cmd, dispatch_error (decode_of_illegalOp hv)]
  rfl

/-- Settles O16: six words by their low bytes, and one whose low byte is illegal. -/
theorem writtenOutWordsDecode : Obligations.WrittenOutWordsDecode := by
  refine ⟨?_, ?_, ?_, ?_, ?_, ?_, decode_of_illegalOp rfl⟩ <;> exact decode_eq_ok_iff.mpr rfl

end Sys2Proof

/-! PROOFS. The response frame (30_encoding.md R84, R86): the physical values of its fields, and that PARSE gives back what
a frame was laid out from. -/

namespace Sys2Proof.Machine

open Claims

/-! ### Physical values -/

theorem Measurement.physical_mul_scale (m : Measurement) (f : Field) : m.physical f * f.scale = m.raw f :=
  div_mul_cancel₀ _ (by cases f <;> simp [Field.scale])

/-- Settles O18: the scale of each field is one of R84's three. -/
theorem physicalValuesAreExact : Obligations.PhysicalValuesAreExact := by
  intro m
  have hundred {f : Field} (hf : f.scale = 100) : m.physical f * 100 = m.raw f := by
    simpa [hf] using m.physical_mul_scale f
  have thousand {f : Field} (hf : f.scale = 1000) : m.physical f * 1000 = m.raw f := by
    simpa [hf] using m.physical_mul_scale f
  have one {f : Field} (hf : f.scale = 1) : m.physical f = m.raw f := by
    simpa [hf] using m.physical_mul_scale f
  refine ⟨hundred rfl, hundred rfl, hundred rfl, hundred rfl, hundred rfl, thousand rfl, one rfl, one rfl, one rfl,
    one rfl, ?_, ?_, ?_⟩
  all_goals
    intro h
    norm_num [Measurement.physical, Field.scale, h]

/-! ### The fields of a frame laid out by R84 -/

section ResponseHead
variable (m : Measurement) (len : Nat) (tail : List Byte)

theorem responseHead_length : (responseHead m len).length = 28 := rfl

/-- LEN stands in bytes 2 and 3. -/
theorem le16_responseHead_len : le16 (responseHead m len ++ tail) 2 = BitVec.ofNat 16 len := hi_append_lo _

/-- The address stands in bytes 5 and 6. -/
theorem le16_responseHead_addr : le16 (responseHead m len ++ tail) 5 = m.rxAddr := hi_append_lo _

/-- The field decode of R111 undoes the layout of R84. -/
theorem decodeFields_responseHead : decodeFields (responseHead m len ++ tail) = m := by
  apply Measurement.ext
  case rxCmd | seq => rfl
  case press => exact append_bytes m.press
  all_goals exact hi_append_lo _

end ResponseHead

/-- A frame with its own length in LEN and the known address passes checks 0 to 4 (42_parser.md R105 to R109). -/
theorem checkFrame_responseHead {m : Measurement} {tail : List Byte} (strict : Bool) (cap : Nat)
    (haddr : m.rxAddr = 0x5022) (hmax : tail.length ≤ 65511) (hmin : requiredLength strict ≤ 28 + tail.length) :
    checkFrame false cap strict (responseHead m (24 + tail.length) ++ tail) = none := by
  have hlength : (responseHead m (24 + tail.length) ++ tail).length = 28 + tail.length := by
    rw [List.length_append, responseHead_length]
  refine checkFrame_none.mpr ⟨rfl, rfl, rfl, ?_, (le16_responseHead_addr m _ tail).trans haddr, hlength ▸ hmin⟩
  rw [hlength, le16_responseHead_len, BitVec.toNat_ofNat]
  omega

/-! ### A checksum behind a frame -/

theorem byteAt_append (d e : List Byte) (i : Nat) : byteAt (d ++ e) (d.length + i) = byteAt e i := by
  simp [byteAt, List.getElem?_append_right]

/-- The two bytes a strict PARSE compares are the last two (42_parser.md R110). -/
theorem receivedCrc_append (d : List Byte) (c : Half) : receivedCrc (d ++ bytes16 c) = c := by
  have hlo : byteAt (d ++ bytes16 c) d.length = loByte c := byteAt_append d _ 0
  have hhi : byteAt (d ++ bytes16 c) (d.length + 1) = hiByte c := byteAt_append d _ 1
  have hat : (d ++ bytes16 c).length - 2 = d.length := by simp [bytes16]
  rw [receivedCrc, hat, le16, hlo, hhi, hi_append_lo]

/-- It computes the checksum of all bytes before them. -/
theorem computedCrc_append (d : List Byte) (c : Half) : computedCrc (d ++ bytes16 c) = crc16 d := by
  simp [computedCrc, bytes16]

/-! ### What an accepting PARSE leaves -/

theorem classDi_code (raw : Int) : (classDi raw).code = diCode raw := by
  unfold classDi diCode
  split_ifs <;> rfl

theorem classHs_code (raw : Int) : (classHs raw).code = hsCode raw := by
  unfold classHs hsCode
  split_ifs <;> rfl

/-- The success branch of R112 with the measurements `m` that were laid out. -/
theorem parseAccept_responseHead (s : State) (m : Measurement) (len : Nat) (tail : List Byte) :
    s.markLegal.markParsed.parseAccept (responseHead m len ++ tail) =
      { s with meas := m, diClass := diCode m.di.toInt, hsClass := hsCode m.hs.toInt, err := 0, diag0 := 0, diag1 := 0,
               parsed := true, measValid := true, illegal := false } := by
  have hfields := decodeFields_responseHead m len tail
  have hdi : le16 (responseHead m len ++ tail) 24 = m.di := congrArg Measurement.di hfields
  have hhs : le16 (responseHead m len ++ tail) 26 = m.hs := congrArg Measurement.hs hfields
  rw [parseAccept_eq, hfields, hdi, hhs, classDi_code, classHs_code]

theorem parseState_lenient {s : State} (hlenient : s.strict = false)
    (hchecks : checkFrame s.rxOvf s.rxCapacity s.strict s.frame = none) :
    parseState s = s.markLegal.markParsed.parseAccept s.frame := by
  rw [parseState, hchecks, hlenient]
  rfl

theorem parseState_strict {s : State} (hstrict : s.strict = true)
    (hchecks : checkFrame s.rxOvf s.rxCapacity s.strict s.frame = none)
    (hcrc : receivedCrc s.frame = computedCrc s.frame) :
    parseState s = (s.markLegal.markParsed.parseAccept s.frame).setCrc (computedCrc s.frame) := by
  rw [parseState, hchecks, hstrict, ← parseAccept_setCrc]
  simp [State.parseChecked, hcrc]

/-- Settles O36: the frame passes every check, and the decode undoes the layout. -/
theorem lenientParseRecoversEveryFrame : Obligations.LenientParseRecoversEveryFrame := by
  intro s m tail hovf hlenient haddr hmax hframe
  have hchecks : checkFrame s.rxOvf s.rxCapacity s.strict s.frame = none := by
    rw [hovf, hframe, State.strict, hlenient]
    exact checkFrame_responseHead false _ haddr hmax (Nat.le_add_right 28 _)
  rw [exec_eq, nextState, parseState_lenient hlenient hchecks, hframe, parseAccept_responseHead]

/-- Settles O37: as in lenient mode, with the checksum as the last two bytes of the tail. -/
theorem strictParseRecoversEveryFrame : Obligations.StrictParseRecoversEveryFrame := by
  intro s m pad hovf hstrict haddr hmax hframe
  generalize hc : crc16 (responseHead m (26 + pad.length) ++ pad) = c at hframe ⊢
  have hreceived : receivedCrc s.frame = c := hframe ▸ receivedCrc_append _ c
  have hcomputed : computedCrc s.frame = c := (hframe ▸ computedCrc_append _ c).trans hc
  have htail : (pad ++ bytes16 c).length = pad.length + 2 := by simp [bytes16]
  have hframe' : s.frame = responseHead m (24 + (pad ++ bytes16 c).length) ++ (pad ++ bytes16 c) := by
    rw [hframe, htail, List.append_assoc, show 24 + (pad.length + 2) = 26 + pad.length by omega]
  have hchecks : checkFrame s.rxOvf s.rxCapacity s.strict s.frame = none := by
    rw [hovf, hframe', State.strict, hstrict]
    exact checkFrame_responseHead true _ haddr (by omega) (by rw [htail, requiredLength, if_pos rfl]; omega)
  rw [exec_eq, nextState, parseState_strict hstrict hchecks (hreceived.trans hcomputed.symm), hcomputed, hframe',
    parseAccept_responseHead]
  rfl

end Sys2Proof.Machine

/-! PROOFS. The pseudo-statements of host scripts (30_encoding.md R89): each is an operand write and the command that
reads it, and a byte sequence is one such pair per byte. -/

namespace Sys2Proof.Machine

open Claims

/-! ### An operand write and its command -/

theorem parseState_setPending (s : State) (es : List Event) :
    parseState (s.setPending es) = (parseState s).setPending es := by
  have hchecks : checkFrame (s.setPending es).rxOvf (s.setPending es).rxCapacity (s.setPending es).strict
      (s.setPending es).frame = checkFrame s.rxOvf s.rxCapacity s.strict s.frame := rfl
  rw [parseState, parseState, hchecks]
  cases checkFrame s.rxOvf s.rxCapacity s.strict s.frame with
  | some e => rfl
  | none =>
    simp only [State.parseChecked, apply_ite (State.setPending es)]
    rfl

/-- No command looks at what is pending. -/
theorem nextState_setPending (i : Instr) (s : State) (es : List Event) :
    nextState i (s.setPending es) = (nextState i s).setPending es := by
  cases i
  case parse => exact parseState_setPending s es
  case rxPush =>
    simp only [nextState, apply_ite (State.setPending es)]
    rfl
  all_goals rfl

section ScriptRules
variable {s : State} {rest : List Event} {i : Instr} {r : RegName} {v : Word}

@[simp] theorem writeOperand_pending (r : RegName) (v : Word) (s : State) : (writeOperand r v s).pending = s.pending := by
  cases r <;> rfl

theorem writeOperand_setPending (r : RegName) (v : Word) (s : State) (es : List Event) :
    writeOperand r v (s.setPending es) = (writeOperand r v s).setPending es := by
  cases r <;> rfl

theorem step_command (h : s.pending = .host (.write 0x00 (encode i)) :: rest) :
    step s = .next ((nextState i s).setPending rest) := by
  rw [← nextState_setPending]
  exact (step_write h).trans (dispatch_ok (decode_encode i) _)

theorem step_operand (hr : r.access = .rw) (h : s.pending = .host (.write r.offset v) :: rest) :
    step s = .next ((writeOperand r v s).setPending rest) := by
  rw [← writeOperand_setPending]
  exact (step_write h).trans (regWrite_rw hr v _)

/-- A run that begins with an operand write and a command. -/
theorem run_operand_command (hr : r.access = .rw)
    (h : s.pending = .host (.write r.offset v) :: .host (.write 0x00 (encode i)) :: rest) (n : Nat) :
    Host.Core.run core (n + 2) s = Host.Core.run core n ((nextState i (writeOperand r v s)).setPending rest) := by
  rw [run_succ_of_step (step_operand hr h), run_succ_of_step (step_command rfl), nextState_setPending]
  rfl

end ScriptRules

/-- A number of at most 32 bits, written as a word, comes back from the word's low bits. -/
theorem extractLsb'_ofNat_toNat {w : Nat} (hw : w ≤ 32) (a : BitVec w) :
    (BitVec.ofNat 32 a.toNat).extractLsb' 0 w = a := by
  rw [BitVec.ofNat_toNat, BitVec.extractLsb'_setWidth_of_le (by omega)]
  exact BitVec.extractLsb'_eq_self

/-! An operand written as a number is the operand the register holds (44_control.md R131). -/

theorem writeOperand_dataIn_ofNat (b : Byte) (s : State) :
    writeOperand .dataIn (BitVec.ofNat 32 b.toNat) s = s.setDataIn b :=
  congrArg s.setDataIn (extractLsb'_ofNat_toNat (by decide) b)

theorem writeOperand_addrIn_ofNat (a : Half) (s : State) :
    writeOperand .addrIn (BitVec.ofNat 32 a.toNat) s = s.setAddrIn a :=
  congrArg s.setAddrIn (extractLsb'_ofNat_toNat (by decide) a)

theorem writeOperand_clsIn_ofNat (c : Half) (s : State) :
    writeOperand .clsIn (BitVec.ofNat 32 c.toNat) s = s.setClsIn c :=
  congrArg s.setClsIn (extractLsb'_ofNat_toNat (by decide) c)

/-! ### One byte after the other -/

/-- The host operations of R89 for a byte sequence: per byte a DATA_IN write and the command. -/
def byteEvents (i : Instr) (bs : List Byte) : List Event :=
  (perByte i (bs.map BitVec.toNat)).map fun x => .host x.op

theorem byteEvents_cons (i : Instr) (b : Byte) (bs : List Byte) :
    byteEvents i (b :: bs) = .host (.write RegName.dataIn.offset (BitVec.ofNat 32 b.toNat)) ::
      .host (.write 0x00 (encode i)) :: byteEvents i bs := rfl

/-- What they do to the state: each byte goes into DATA_IN, and the command runs. -/
def feedBytes (i : Instr) (s : State) (bs : List Byte) : State := bs.foldl (fun t b => nextState i (t.setDataIn b)) s

theorem feedBytes_cons (i : Instr) (s : State) (b : Byte) (bs : List Byte) :
    feedBytes i s (b :: bs) = feedBytes i (nextState i (s.setDataIn b)) bs := rfl

theorem run_byteEvents {i : Instr} {bs : List Byte} {s : State} (h : s.pending = byteEvents i bs) :
    Host.Core.run core (2 * bs.length) s = .next (feedBytes i (s.setPending []) bs) := by
  induction bs generalizing s with
  | nil =>
    have hs : s.setPending [] = s := congrArg s.setPending h.symm
    rw [hs]
    rfl
  | cons b bs ih =>
    rw [byteEvents_cons] at h
    have hfirst : (nextState i (s.setDataIn b)).setPending [] = nextState i ((s.setPending []).setDataIn b) :=
      (nextState_setPending i (s.setDataIn b) []).symm
    rw [List.length_cons, Nat.mul_succ, run_operand_command (r := .dataIn) rfl h, writeOperand_dataIn_ofNat, ih rfl,
      feedBytes_cons, ← hfirst]
    rfl

/-- CRC_BYTE once per byte folds the bytes into CRC in their order (40_crc.md R91, R95). -/
theorem feedBytes_crcByte (bs : List Byte) {s : State} (hlegal : s.illegal = false) :
    feedBytes .crcByte s bs = (s.setCrc (bs.foldl crcUpdate s.crc)).setDataIn (bs.getLastD s.dataIn) := by
  induction bs generalizing s with
  | nil => rfl
  | cons b bs ih =>
    have hfirst : nextState .crcByte (s.setDataIn b) = (s.setCrc (crcUpdate s.crc b)).setDataIn b := by
      apply State.ext <;> simp [nextState, State.dataByte, hlegal]
    rw [feedBytes_cons, hfirst, List.getLastD_cons]
    exact ih (s := (s.setCrc (crcUpdate s.crc b)).setDataIn b) hlegal

/-- The events of one line are the operations of its expansion. -/
theorem events_eq (l : Line) : events l = l.expand.map fun x => .host x.op := by
  simp [events, scriptEvents, expandScript]

theorem events_crcBytes (bs : List Byte) :
    events (.crcBytes (bs.map BitVec.toNat)) = .host (.write 0x00 (encode .crcInit)) :: byteEvents .crcByte bs :=
  events_eq _

/-- Settles O24: CRC_INIT, and then the bytes folded from its initial value. -/
theorem crcByteFoldsOneByte : Obligations.CrcByteFoldsOneByte := by
  refine ⟨fun s v => ⟨exec_eq .crcByte s, fun hv => decode_eq_ok_iff.mpr hv, fun hcrc hdata => ?_⟩,
    fun s bs => ⟨_, ?_, rfl⟩⟩
  · have hfold : crcUpdate s.crc s.dataByte = 0xBD3E := by
      rw [hcrc, State.dataByte, hdata]
      decide
    rw [exec_eq, nextState, hfold]
    rfl
  · have hinit : step { s with pending := events (.crcBytes (bs.map BitVec.toNat)) } = .next _ :=
      step_command (events_crcBytes bs)
    rw [run_succ_of_step hinit, run_byteEvents rfl, feedBytes_crcByte bs rfl]
    rfl

/-! ### The other pseudo-statements -/

theorem run_two_operand_command {s : State} {r : RegName} {v : Word} {i : Instr} (hr : r.access = .rw)
    (h : s.pending = [.host (.write r.offset v), .host (.write 0x00 (encode i))]) :
    Host.Core.run core 2 s = exec i ((writeOperand r v s).setPending []) := by
  rw [exec_eq, nextState_setPending]
  exact run_operand_command hr h 0

/-- `classify_di` and `classify_hs` run their command with CLS_IN holding the index, negative or not: its low 16 bits read
as signed are the index (10_state.md R32). -/
theorem toInt_ofInt_of_bounds {v : Int} (hmin : -32768 ≤ v) (hmax : v ≤ 32767) : (BitVec.ofInt 16 v).toInt = v :=
  BitVec.toInt_ofInt_eq_self (by decide) hmin (Int.lt_add_one_of_le hmax)

/-- Settles O48: two steps each; for the classifications, the operand read as signed is the value given. -/
theorem pseudoStatementsRunTheirCommands : Obligations.PseudoStatementsRunTheirCommands := by
  intro s
  refine ⟨fun a => ?_, ?_, ?_, fun v hmin hmax => ?_⟩
  · have hrun := run_two_operand_command (s := { s with pending := events (.build a.toNat) }) (r := .addrIn) rfl rfl
    rwa [writeOperand_addrIn_ofNat] at hrun
  · exact run_two_operand_command (s := { s with pending := events .parseLenient }) (r := .ctrl) rfl rfl
  · exact run_two_operand_command (s := { s with pending := events .parseStrict }) (r := .ctrl) rfl rfl
  · have hv := toInt_ofInt_of_bounds hmin hmax
    constructor
    · have hrun := run_two_operand_command (s := { s with pending := events (.classifyDi v) }) (r := .clsIn) rfl rfl
      rw [writeOperand_clsIn_ofNat, exec_eq] at hrun
      refine ⟨_, hrun, ?_, hv⟩
      simp only [nextState, State.clsValue, State.setPending_clsIn, State.setClsIn_clsIn, hv, classDi_code]
      rfl
    · have hrun := run_two_operand_command (s := { s with pending := events (.classifyHs v) }) (r := .clsIn) rfl rfl
      rw [writeOperand_clsIn_ofNat, exec_eq] at hrun
      refine ⟨_, hrun, ?_, hv⟩
      simp only [nextState, State.clsValue, State.setPending_clsIn, State.setClsIn_clsIn, hv, classHs_code]
      rfl

end Sys2Proof.Machine

/-! PROOFS. The frame of every command (30_encoding.md R76): which registers an update of the state can change, and what
each command leaves as it was. -/

namespace Sys2Proof.Machine

open Claims

/-! ### The registers an update can change -/

section ReadRules
variable {r : RegName} (s : State)

theorem readReg_markLegal (h : r ≠ .status) : readReg s.markLegal r = readReg s r := by
  cases r <;> simp [readReg] at h ⊢

theorem readReg_markTxValid (h : r ≠ .status) : readReg s.markTxValid r = readReg s r := by
  cases r <;> simp [readReg] at h ⊢

theorem readReg_setRxOvf (b : Bool) (h : r ≠ .status) : readReg (s.setRxOvf b) r = readReg s r := by
  cases r <;> simp [readReg] at h ⊢

theorem readReg_setCrc (c : Half) (h : r ≠ .crc) : readReg (s.setCrc c) r = readReg s r := by
  cases r <;> simp [readReg, State.statusWord] at h ⊢

theorem readReg_setRxlen (n : Nat) (h : r ≠ .rxlen) : readReg (s.setRxlen n) r = readReg s r := by
  cases r <;> simp [readReg, State.statusWord] at h ⊢

/-- No register shows a byte of RXBUF (10_state.md R54). -/
theorem readReg_storeRx (i : Nat) (b : Byte) : readReg (s.storeRx i b) r = readReg s r := by
  cases r <;> rfl

theorem readReg_setTx (f : Vector Byte 9) (h : r ∉ RegName.txbytes) (hlen : r ≠ .txlen) :
    readReg (s.setTx f) r = readReg s r := by
  cases r <;> simp [readReg, State.statusWord, RegName.txbytes] at h hlen ⊢

theorem readReg_setDiClass (c : BitVec 3) (h : r ≠ .diClass) : readReg (s.setDiClass c) r = readReg s r := by
  cases r <;> simp [readReg, State.statusWord] at h ⊢

theorem readReg_setHsClass (c : BitVec 3) (h : r ≠ .hsClass) : readReg (s.setHsClass c) r = readReg s r := by
  cases r <;> simp [readReg, State.statusWord] at h ⊢

/-- PARSE leaves the operands, the buffer's registers and the request frame. -/
theorem readReg_parseState (h : r ∉ writes .parse) : readReg (parseState s) r = readReg s r := by
  obtain ⟨hctrl, hdata, haddr, hcls, hcap, -, hlen, -, htx, htxlen, -⟩ := parseState_frame s
  cases r <;> simp [writes, readReg, *] at h ⊢

end ReadRules

/-! ### What each command leaves as it was -/

section FrameRules
variable {i : Instr} (s : State)

/-- A register outside the command's row of R76 is written by none of the command's updates. -/
theorem readReg_nextState {r : RegName} (h : r ∉ writes i) : readReg (nextState i s) r = readReg s r := by
  cases i with
  | parse => exact readReg_parseState s h
  | rxPush =>
    simp only [writes, List.mem_cons, not_or] at h
    simp only [nextState]
    split <;> simp [readReg_setRxlen, readReg_storeRx, readReg_setRxOvf, readReg_markLegal, h]
  | build =>
    simp only [writes, List.mem_cons, not_or] at h
    simp [nextState, readReg_setCrc, readReg_markTxValid, readReg_setTx, RegName.txbytes, readReg_markLegal, h]
  | _ =>
    simp only [writes, List.mem_cons, not_or] at h
    simp [nextState, readReg_setCrc, readReg_setRxlen, readReg_setRxOvf, readReg_setDiClass, readReg_setHsClass,
      readReg_markLegal, h]

theorem nextState_rxlen_of_ne (hclear : i ≠ .rxClear) (hpush : i ≠ .rxPush) : (nextState i s).rxlen = s.rxlen := by
  have hframe := nextState_rxFrame i s
  rw [if_neg hclear, if_neg fun h => hpush h.1] at hframe
  simpa using congrArg List.length hframe

theorem nextState_txbuf_of_ne (h : i ≠ .build) : (nextState i s).txbuf = s.txbuf := by
  cases i with
  | build => exact absurd rfl h
  | parse =>
    obtain ⟨-, -, -, -, -, -, -, -, htx, -⟩ := parseState_frame s
    exact htx
  | rxPush => simp only [nextState]; split <;> rfl
  | _ => rfl

theorem nextState_err_of_ne (h : i ≠ .parse) : (nextState i s).err = s.err := by
  cases i with
  | parse => exact absurd rfl h
  | rxPush => simp only [nextState]; split <;> rfl
  | _ => rfl

/-- RX_PUSH alone stores a byte, at RXLEN and only if it fits (42_parser.md R103). -/
theorem nextState_rxByte {a : Nat} (h : ¬(i = .rxPush ∧ s.rxlen < s.rxCapacity ∧ a = s.rxlen)) :
    (nextState i s).rxByte a = s.rxByte a := by
  cases i with
  | parse => simp only [nextState, State.rxByte, parseState_rxbuf]
  | rxPush =>
    simp only [true_and, not_and] at h
    simp only [nextState]
    split
    · exact (State.rxByte_storeRx s.markLegal _ _ a).trans (if_neg (h ‹_›))
    · rfl
  | _ => rfl

/-- A lenient PARSE never reaches the checksum step (42_parser.md R110). -/
theorem parseState_crc_of_lenient (h : s.ctrlStrict = false) : (parseState s).crc = s.crc := by
  simp [parseState_crc, crcAfterParse, checksumReached, h]

end FrameRules

/-- Settles O49, from what each command leaves as it was. -/
theorem commandsChangeOnlyTheirRegisters : Obligations.CommandsChangeOnlyTheirRegisters := by
  intro i s
  refine ⟨_, exec_eq i s, fun r => readReg_nextState s, ?_, nextState_illegal i s, fun hclear hpush => ⟨?_, ?_⟩,
    fun hbuild => ⟨?_, nextState_txbuf_of_ne s hbuild⟩, fun hparse => ⟨nextState_err_of_ne s hparse, ?_, ?_⟩,
    fun a => nextState_rxByte s, nextState_rxCapacity i s, nextState_pending i s, nextState_reads i s⟩
  · rintro rfl
    exact parseState_crc_of_lenient s
  · simp [nextState_rxOvf, hclear, hpush]
  · exact nextState_rxlen_of_ne s hclear hpush
  · simp [nextState_txValid, hbuild]
  · simp [nextState_parsed, hparse]
  · simp [nextState_measValid, hparse]

end Sys2Proof.Machine

/-! PROOFS. The CRC-16 engine (40_crc.md): the eight iterations as arithmetic and as a linear map of the register, the
residue property, and the commands that set CRC. -/

namespace Sys2Proof.Machine

open Claims

/-! ### The iterations of R90 in arithmetic -/

theorem crcShift_toNat (r : Half) : (crcShift r).toNat = crcShiftNat r.toNat := by
  have hodd : r.getLsbD 0 = decide (r.toNat % 2 = 1) := Nat.testBit_zero r.toNat
  have hhalf : (r >>> 1).toNat = r.toNat / 2 := by rw [BitVec.toNat_ushiftRight, Nat.shiftRight_one]
  simp only [crcShift, crcShiftNat, hodd, decide_eq_true_eq]
  split
  · rw [BitVec.toNat_xor, hhalf]
    rfl
  · exact hhalf

theorem crcShifts_toNat (n : Nat) (r : Half) : (crcShifts n r).toNat = crcShiftNat^[n] r.toNat := by
  induction n generalizing r with
  | zero => rfl
  | succ n ih => rw [crcShifts_succ, ih, crcShift_toNat, Function.iterate_succ_apply]

/-- Settles O19: the eight iterations one by one, from the register with the byte in its low bits. -/
theorem crcUpdateIsTheBitSerialStep : Obligations.CrcUpdateIsTheBitSerialStep := by
  intro r b
  have hb : (b.setWidth 16).toNat = b.toNat := BitVec.toNat_setWidth_of_le (by decide)
  rw [crcUpdate, crcShifts_toNat, BitVec.toNat_xor, hb]
  rfl

/-! ### The iterations as a linear map -/

/-- A bit after an iteration: the bit above it, XOR the constant's bit where the low bit was 1. -/
theorem getLsbD_crcShift (r : Half) (i : Nat) :
    (crcShift r).getLsbD i = (r.getLsbD (i + 1) ^^ (r.getLsbD 0 && crcPolynomial.getLsbD i)) := by
  rw [crcShift]
  cases r.getLsbD 0 <;> simp [Nat.add_comm 1 i]

/-- A low bit of 0 is shifted out, and the constant stays away. -/
theorem crcShift_of_even {r : Half} (h : r.getLsbD 0 = false) : crcShift r = r >>> 1 :=
  if_neg (Bool.eq_false_iff.mp h)

theorem crcShift_xor (a b : Half) : crcShift (a ^^^ b) = crcShift a ^^^ crcShift b := by
  apply BitVec.eq_of_getLsbD_eq
  intro i _
  simp only [getLsbD_crcShift, BitVec.getLsbD_xor, Bool.and_xor_distrib_right, Bool.xor_assoc, Bool.xor_left_comm]

theorem crcShifts_xor (n : Nat) (a b : Half) : crcShifts n (a ^^^ b) = crcShifts n a ^^^ crcShifts n b := by
  induction n generalizing a b with
  | zero => rfl
  | succ n ih => rw [crcShifts_succ, crcShift_xor, ih, crcShifts_succ, crcShifts_succ]

/-- An iteration loses nothing: the constant's top bit tells whether the bit shifted out was 1. -/
theorem crcShift_eq_zero_iff {r : Half} : crcShift r = 0 ↔ r = 0 := by
  constructor
  · intro h
    have hbit (i : Nat) : (r.getLsbD (i + 1) ^^ (r.getLsbD 0 && crcPolynomial.getLsbD i)) = false := by
      rw [← getLsbD_crcShift, h]
      exact BitVec.getLsbD_zero
    have hlow : r.getLsbD 0 = false := by simpa [crcPolynomial] using hbit 15
    have hall (i : Nat) : r.getLsbD i = false := by
      cases i with
      | zero => exact hlow
      | succ i => simpa only [hlow, Bool.false_and, Bool.xor_false] using hbit i
    exact BitVec.eq_of_getLsbD_eq fun i _ => (hall i).trans BitVec.getLsbD_zero.symm
  · rintro rfl
    rfl

theorem crcShifts_eq_zero_iff {n : Nat} {r : Half} : crcShifts n r = 0 ↔ r = 0 := by
  induction n generalizing r with
  | zero => rfl
  | succ n ih => rw [crcShifts_succ, ih, crcShift_eq_zero_iff]

/-- Low bits of 0 are shifted out one after the other. -/
theorem crcShifts_of_low_zero {n : Nat} {r : Half} (h : ∀ i < n, r.getLsbD i = false) : crcShifts n r = r >>> n := by
  induction n generalizing r with
  | zero => simp [crcShifts]
  | succ n ih =>
    rw [crcShifts_succ, crcShift_of_even (h 0 n.succ_pos), ih fun i hlow => ?_, ← BitVec.shiftRight_add, Nat.add_comm]
    rw [BitVec.getLsbD_ushiftRight, Nat.add_comm]
    exact h (i + 1) (Nat.succ_lt_succ hlow)

/-! ### Two bytes behind a sequence -/

/-- A u16 is its low byte and its high byte, each in its place. -/
theorem lo_xor_hi_shiftLeft (c : Half) : (lo c).setWidth 16 ^^^ (hi c).setWidth 16 <<< 8 = c := by
  apply BitVec.eq_of_getLsbD_eq
  intro i hlt
  by_cases h : i < 8
  · simp [lo, hi, h, hlt]
  · simp [lo, hi, h, hlt, show i - 8 < 8 by omega, Nat.add_sub_cancel' (Nat.le_of_not_lt h)]

/-- A byte in the high bits is in the low bits eight iterations later. -/
theorem crcShifts_shiftLeft (b : Byte) : crcShifts 8 (b.setWidth 16 <<< 8) = b.setWidth 16 := by
  rw [crcShifts_of_low_zero fun i hlow => by simp [hlow]]
  apply BitVec.eq_of_toNat_eq
  simp only [BitVec.toNat_ushiftRight, BitVec.toNat_shiftLeft, BitVec.toNat_setWidth]
  omega

/-- The two bytes of a u16 enter as the whole u16, and sixteen iterations follow. -/
theorem foldl_crcUpdate_bytes16 (r c : Half) :
    (bytes16 c).foldl crcUpdate r = crcShifts 8 (crcShifts 8 (r ^^^ c)) := by
  calc (bytes16 c).foldl crcUpdate r
      = crcShifts 8 (crcShifts 8 (r ^^^ (lo c).setWidth 16) ^^^ (hi c).setWidth 16) := rfl
    _ = crcShifts 8 (crcShifts 8 (r ^^^ ((lo c).setWidth 16 ^^^ ((hi c).setWidth 16 <<< 8)))) := by
      rw [← BitVec.xor_assoc, crcShifts_xor 8 (r ^^^ _), crcShifts_shiftLeft]
    _ = crcShifts 8 (crcShifts 8 (r ^^^ c)) := by rw [lo_xor_hi_shiftLeft]

/-- The residue property (93_implementation_defined.md G4), for one sequence. -/
theorem crc16_append_bytes16_eq_zero_iff {bs : List Byte} {c : Half} :
    crc16 (bs ++ bytes16 c) = 0 ↔ c = crc16 bs := by
  rw [crc16_append, foldl_crcUpdate_bytes16, crcShifts_eq_zero_iff, crcShifts_eq_zero_iff, eq_comm (a := c)]
  exact BitVec.xor_eq_zero_iff

/-- Settles O22: sixteen iterations of the checksum XOR the value are 0 only where the two agree. -/
theorem checksumResidueIsZero : Obligations.ChecksumResidueIsZero := fun _ _ => crc16_append_bytes16_eq_zero_iff

/-! ### The fold and its known answers -/

/-- Settles O20: the fold from R91's initial value. -/
theorem checksumFoldsTheBytes : Obligations.ChecksumFoldsTheBytes := ⟨crc16_nil, crc16_concat⟩

/-- The checksum of the request's first seven bytes (40_crc.md R92). -/
theorem crc16_requestBytes : crc16 [0x52, 0x42, 0x05, 0x00, 0x01, 0x22, 0x50] = 0xBBE2 := by decide +kernel

/-- Settles O21: four closed evaluations. -/
theorem checksumKnownAnswers : Obligations.ChecksumKnownAnswers := by
  refine ⟨crc16_requestBytes, ?_, ?_, ?_⟩ <;> decide +kernel

/-! ### CRC_INIT and CRC_RX -/

theorem exec_crcInit (s : State) : exec .crcInit s = .next { s with crc := 0xFFFF, illegal := false } :=
  exec_eq .crcInit s

theorem exec_crcRx (s : State) : exec .crcRx s = .next { s with crc := crc16 s.frame, illegal := false } :=
  exec_eq .crcRx s

/-- Settles O23, by the command's one equation. -/
theorem crcInitSetsTheInitialValue : Obligations.CrcInitSetsTheInitialValue :=
  fun s _ => ⟨exec_crcInit s, exec_crcInit _, fun hv => decode_eq_ok_iff.mpr hv⟩

/-- Settles O25: the command reads the frame alone, so each clause is the checksum of a frame. -/
theorem crcRxChecksumsTheBuffer : Obligations.CrcRxChecksumsTheBuffer := by
  intro s v c
  refine ⟨exec_crcRx s, ?_, exec_crcRx _, fun bs hframe => ?_, fun hempty => ?_, fun hframe => ?_,
    fun hv => decode_eq_ok_iff.mpr hv⟩
  · rw [exec_crcRx, exec_crcRx]
    rfl
  · rw [exec_crcRx, hframe, crc16_append_bytes16_eq_zero_iff.mpr rfl]
  · rw [exec_crcRx, State.frame_of_rxlen_zero hempty, crc16_nil]
    rfl
  · rw [exec_crcRx, hframe, crc16_requestBytes]

end Sys2Proof.Machine

/-! PROOFS. The frame serializer (41_serializer.md): the request's fields read little-endian, and what BUILD leaves. -/

namespace Sys2Proof.Machine

open Claims

/-! ### The request frame -/

section RequestFrame
variable (a : Half)

/-- Steps 1 to 4 of R97, the address low byte first. -/
theorem requestBody_eq : requestBody a = [0x52, 0x42, 0x05, 0x00, 0x01] ++ bytes16 a := rfl

/-- Step 5 of R97: the checksum behind the body, low byte first. -/
theorem buildRequest_toList_bytes16 : (buildRequest a).toList = requestBody a ++ bytes16 (requestCrc a) :=
  buildRequest_toList a

theorem take_buildRequest : (buildRequest a).toList.take 7 = requestBody a := rfl

theorem le16_buildRequest_len : le16 (buildRequest a).toList 2 = 5 := hi_append_lo 5

theorem le16_buildRequest_addr : le16 (buildRequest a).toList 5 = a := hi_append_lo a

theorem le16_buildRequest_crc : le16 (buildRequest a).toList 7 = requestCrc a := hi_append_lo (requestCrc a)

end RequestFrame

/-- Settles O26: the body, the checksum behind it, and the three fields as little-endian numbers. -/
theorem requestFrameLayout : Obligations.RequestFrameLayout := by
  intro a
  refine ⟨?_, Vector.length_toList, ?_, ?_, ?_⟩
  · rw [buildRequest_toList_bytes16, requestCrc, requestBody_eq]
  · rw [u16At_eq, le16_buildRequest_len]
    rfl
  · rw [u16At_eq, le16_buildRequest_addr]
  · rw [u16At_eq, le16_buildRequest_crc, take_buildRequest, requestCrc]

/-! ### BUILD -/

/-- The record a BUILD leaves (41_serializer.md R99). -/
theorem exec_build (s : State) :
    exec .build s = .next { s with txbuf := buildRequest s.addrIn, txlen := 9, txValid := true,
                                   crc := requestCrc s.addrIn, illegal := false } :=
  exec_eq .build s

/-- The checksum of the example's request (41_serializer.md R99) is that of R92's seven bytes. -/
theorem requestCrc_knownAddress : requestCrc 0x5022 = 0xBBE2 := crc16_requestBytes

/-- The example of R99, byte by byte. -/
theorem buildRequest_knownAddress :
    (buildRequest 0x5022).toList = [0x52, 0x42, 0x05, 0x00, 0x01, 0x22, 0x50, 0xE2, 0xBB] := by
  rw [buildRequest_toList_bytes16, requestCrc_knownAddress]
  rfl

/-- Settles O27: BUILD reads ADDR_IN alone and leaves it, so a second BUILD writes the same values. -/
theorem buildWritesTheRequest : Obligations.BuildWritesTheRequest := by
  intro s v
  refine ⟨_, exec_build s, rfl, ?_, exec_build _, fun haddr => ?_, fun hv => decode_eq_ok_iff.mpr hv⟩
  · rw [u16At_eq, le16_buildRequest_crc]
  · simp only [haddr]
    exact ⟨buildRequest_knownAddress, requestCrc_knownAddress⟩

/-! ### The transmit buffer through the window -/

/-- TXBi shows byte `i` of the transmit buffer (10_state.md R53). -/
theorem readReg_txbytes (s : State) (i : Nat) (h : i < RegName.txbytes.length) :
    readReg s RegName.txbytes[i] = (byteAt s.txbuf.toList i).setWidth 32 := by
  have hlt : i < 9 := h
  interval_cases i <;> simp [RegName.txbytes, readReg, byteAt]

/-- Two neighbours of TXB0 to TXB8 read as a little-endian number (00_scope.md R11). -/
theorem readReg_txbytes_le16 (s : State) (i : Nat) (h : i + 1 < RegName.txbytes.length) :
    (readReg s RegName.txbytes[i]).toNat + 256 * (readReg s RegName.txbytes[i + 1]).toNat =
      (le16 s.txbuf.toList i).toNat := by
  rw [readReg_txbytes, readReg_txbytes, BitVec.toNat_setWidth_of_le (by decide),
    BitVec.toNat_setWidth_of_le (by decide), le16_toNat]

/-- Settles O28: each register shows its byte of the request; LEN and the address are the request's fields. -/
theorem builtRequestReadsBack : Obligations.BuiltRequestReadsBack := by
  intro s haddr
  refine ⟨_, exec_build s, readValue_offset _ .txlen, readValue_offset _ .txb0, readValue_offset _ .txb1, ?_,
    readValue_offset _ .txb4, ?_⟩
  · refine (readReg_txbytes_le16 _ 2 (by decide)).trans ?_
    rw [le16_buildRequest_len]
    rfl
  · refine (readReg_txbytes_le16 _ 5 (by decide)).trans ?_
    rw [le16_buildRequest_addr, haddr]
    rfl

end Sys2Proof.Machine

/-! PROOFS. The receive buffer (42_parser.md R101 to R103): RX_CLEAR, RX_PUSH, and a byte sequence pushed one by one. -/

namespace Sys2Proof.Machine

open Claims

/-! ### One command -/

/-- The record an RX_CLEAR leaves (42_parser.md R102). -/
theorem exec_rxClear (s : State) :
    exec .rxClear s = .next { s with rxlen := 0, rxOvf := false, illegal := false } := exec_eq .rxClear s

section Push
variable {s : State}

/-- An RX_PUSH that fits stores its byte and counts it. -/
theorem nextState_rxPush_of_lt (h : s.rxlen < s.rxCapacity) :
    nextState .rxPush s = { s with rxbuf := s.rxbuf.write s.rxlen s.dataIn, rxlen := s.rxlen + 1, illegal := false } :=
  if_pos h

/-- An RX_PUSH on a full buffer drops its byte. -/
theorem nextState_rxPush_of_le (h : s.rxCapacity ≤ s.rxlen) :
    nextState .rxPush s = { s with rxOvf := true, illegal := false } := if_neg (Nat.not_lt.mpr h)

end Push

/-! ### A byte sequence -/

/-- `t` is what is left of `s` when its buffer has been cleared and the bytes `bs` pushed, with nothing pending
(42_parser.md R101). -/
structure Loaded (s : State) (bs : List Byte) (t : State) : Prop where
  same : t = { s with rxbuf := t.rxbuf, rxlen := t.rxlen, rxOvf := decide (s.rxCapacity < bs.length),
                      dataIn := bs.getLastD s.dataIn, illegal := false, pending := [] }
  frame : t.frame = bs.take s.rxCapacity

theorem Loaded.nil (s : State) : Loaded s [] ((nextState .rxClear s).setPending []) where
  same := rfl
  frame := (State.frame_of_rxlen_zero rfl).trans List.take_nil.symm

/-- One more DATA_IN write and RX_PUSH: the byte goes behind the others while it fits, and is dropped from then on. -/
theorem Loaded.push {s t : State} {bs : List Byte} (h : Loaded s bs t) (b : Byte) :
    Loaded s (bs ++ [b]) (nextState .rxPush (t.setDataIn b)) := by
  obtain ⟨hsame, hframe⟩ := h
  have hlen : t.rxlen = min s.rxCapacity bs.length := by rw [← t.frame_length, hframe, List.length_take]
  have hpushed := nextState_rxFrame .rxPush (t.setDataIn b)
  generalize t.rxbuf = m, t.rxlen = n at hsame hlen
  subst hsame
  by_cases hroom : bs.length < s.rxCapacity
  · have hlt : n < s.rxCapacity := by omega
    rw [if_neg nofun, if_pos ⟨rfl, hlt⟩] at hpushed
    refine ⟨?_, hpushed.trans ?_⟩
    · have hfits : ¬s.rxCapacity < bs.length + 1 := by omega
      rw [nextState_rxPush_of_lt hlt]
      simp [State.setDataIn, hroom.not_gt, hfits]
    · refine (congrArg (· ++ [b]) hframe).trans ?_
      rw [List.take_of_length_le hroom.le, List.take_of_length_le (by simpa using hroom)]
  · have hfull : s.rxCapacity ≤ n := by omega
    rw [if_neg nofun, if_neg fun h => hfull.not_gt h.2] at hpushed
    refine ⟨?_, hpushed.trans (hframe.trans ?_)⟩
    · have hcut : s.rxCapacity < bs.length + 1 := by omega
      rw [nextState_rxPush_of_le hfull]
      simp [State.setDataIn, hcut]
    · rw [List.take_append_of_le_length (Nat.le_of_not_lt hroom)]

theorem feedBytes_concat (i : Instr) (s : State) (bs : List Byte) (b : Byte) :
    feedBytes i s (bs ++ [b]) = nextState i ((feedBytes i s bs).setDataIn b) := List.foldl_concat ..

theorem loaded_feedBytes (s : State) (bs : List Byte) :
    Loaded s bs (feedBytes .rxPush ((nextState .rxClear s).setPending []) bs) := by
  induction bs using List.reverseRecOn with
  | nil => exact Loaded.nil s
  | append_singleton bs b ih =>
    rw [feedBytes_concat]
    exact ih.push b

theorem events_loadRx (bs : List Byte) :
    events (.loadRx (bs.map BitVec.toNat)) = .host (.write 0x00 (encode .rxClear)) :: byteEvents .rxPush bs :=
  events_eq _

/-- Settles O31, by induction on the bytes, the last one last. -/
theorem loadRxLoadsTheBytes : Obligations.LoadRxLoadsTheBytes := by
  intro s bs
  have hclear : step { s with pending := events (.loadRx (bs.map BitVec.toNat)) } = .next _ :=
    step_command (events_loadRx bs)
  obtain ⟨hsame, hframe⟩ := loaded_feedBytes s bs
  refine ⟨_, ?_, hsame, hframe⟩
  rw [run_succ_of_step hclear, run_byteEvents rfl]
  rfl

/-- Settles O30: with room by the two rules of the store, on a full buffer by the command's record. -/
theorem rxPushAppendsOrOverflows : Obligations.RxPushAppendsOrOverflows := by
  refine fun s v => ⟨fun hroom => ?_, fun hfull => ⟨?_, ?_⟩, fun hv => decode_eq_ok_iff.mpr hv⟩
  · have hframe := nextState_rxFrame .rxPush s
    rw [if_neg nofun, if_pos ⟨rfl, hroom⟩, nextState_rxPush_of_lt hroom] at hframe
    have hbyte (a : Nat) := State.rxByte_storeRx s s.rxlen s.dataIn a
    refine ⟨_, (exec_eq .rxPush s).trans (congrArg _ (nextState_rxPush_of_lt hroom)), rfl, ?_, fun a ha => ?_, hframe,
      hroom⟩
    · exact (hbyte _).trans (if_pos rfl)
    · exact (hbyte a).trans (if_neg ha)
  · rw [exec_eq, nextState_rxPush_of_le hfull]
  · exact (exec_eq .rxPush _).trans (congrArg _ (nextState_rxPush_of_le hfull))

/-- Settles O29: the command's record, whose second run writes the same values. -/
theorem rxClearEmptiesTheBuffer : Obligations.RxClearEmptiesTheBuffer :=
  fun s _ => ⟨_, exec_rxClear s, rfl, fun _ => rfl, State.frame_of_rxlen_zero rfl, exec_rxClear _,
    fun hv => decode_eq_ok_iff.mpr hv⟩

end Sys2Proof.Machine

/-! PROOFS. PARSE (42_parser.md R104 to R116): its two ways to end, the fields it decodes, and what it takes from the
frame. -/

namespace Sys2Proof.Machine

open Claims

/-! ### The outcome -/

/-- The checksum step's comparison, on numbers (42_parser.md R110). -/
theorem u16At_eq_crc16_iff {d : List Byte} :
    u16At d (d.length - 2) = (crc16 (d.take (d.length - 2))).toNat ↔ receivedCrc d = computedCrc d := by
  rw [u16At_eq, BitVec.toNat_inj]
  rfl

theorem badChecksum_iff {d : List Byte} : badChecksum d = true ↔ receivedCrc d ≠ computedCrc d :=
  bne_iff_ne.trans (not_congr u16At_eq_crc16_iff)

/-- A PARSE ends with the error its outcome reports, or accepts the frame; what CRC holds then is said apart
(42_parser.md R112, R113). -/
theorem parseState_outcome (s : State) :
    (∃ e : ParseError, outcomeOf s = (e.code.toNat, e.diag0, e.diag1) ∧
      parseState s = (s.markLegal.markParsed.parseFail e).setCrc (crcAfterParse s)) ∨
    (outcomeOf s = (0, 0, 0) ∧ le16 s.frame 5 = knownAddress ∧
      parseState s = (s.markLegal.markParsed.parseAccept s.frame).setCrc (crcAfterParse s)) := by
  have hout : outcomeOf s = report (checkFrame s.rxOvf s.rxCapacity s.strict s.frame) _ :=
    outcome_eq_report s.frame s.rxOvf s.strict s.rxCapacity
  rw [hout, ← parseState_crc]
  rcases parseState_cases s with ⟨e, hc, h⟩ | ⟨hc, hs, hne, h⟩ | ⟨hc, heq, h⟩ <;> rw [hc, h]
  · exact .inl ⟨e, rfl, rfl⟩
  · refine .inl ⟨.checksumMismatch (receivedCrc s.frame) (computedCrc s.frame), ?_, rfl⟩
    refine (if_pos (Bool.and_eq_true_iff.mpr ⟨hs, badChecksum_iff.mpr hne⟩)).trans ?_
    rw [u16At_eq]
    rfl
  · obtain ⟨-, -, -, -, haddr, -⟩ := checkFrame_none.mp hc
    refine .inr ⟨if_neg fun hbad => ?_, haddr, ?_⟩
    · obtain ⟨hs, hbad⟩ := Bool.and_eq_true_iff.mp hbad
      exact badChecksum_iff.mp hbad (heq hs)
    · split
      · rw [parseAccept_setCrc]
        rfl
      · rfl

theorem ParseError.code_toNat_ne_zero (e : ParseError) : e.code.toNat ≠ 0 := fun h =>
  e.code_ne_zero (BitVec.eq_of_toNat_eq h)

/-- Settles O32: a failure leaves the outcome's code and diagnostics, a success leaves zeros. -/
theorem parseReportsTheFirstFailingCheck : Obligations.ParseReportsTheFirstFailingCheck := by
  intro s
  refine ⟨parseState s, exec_eq .parse s, ?_⟩
  rcases parseState_outcome s with ⟨e, hout, h⟩ | ⟨hout, -, h⟩ <;> rw [hout, h]
  · exact ⟨rfl, rfl, rfl, rfl, rfl, rfl⟩
  · exact ⟨rfl, rfl, rfl, rfl, rfl, rfl⟩

/-- Settles O33: of the two ways to end, the one whose code is not 0. -/
theorem failedParseKeepsTheResults : Obligations.FailedParseKeepsTheResults := by
  intro s hfail
  rcases parseState_outcome s with ⟨e, hout, h⟩ | ⟨hout, -, -⟩
  · have hcode : BitVec.ofNat 3 e.code.toNat = e.code := by simp
    rw [exec_eq, nextState, h, hout, hcode]
    rfl
  · exact absurd (congrArg Prod.fst hout) hfail

/-! ### The fields -/

theorem toInt_eq_asS16 (h : Half) : h.toInt = asS16 h.toNat := by
  rw [BitVec.toInt_eq_toNat_cond, asS16]
  split_ifs <;> omega

theorem toInt_eq_asS32 (w : Word) : w.toInt = asS32 w.toNat := by
  rw [BitVec.toInt_eq_toNat_cond, asS32]
  split_ifs <;> omega

theorem u32At_eq (d : List Byte) (i : Nat) : u32At d i = (le32 d i).toNat := (le32_toNat d i).symm

/-- Each field is the little-endian number at its offset, read as R85 says. -/
theorem raw_decodeFields (d : List Byte) (f : Field) : (decodeFields d).raw f = rawAt d f := by
  cases f
  case sequenceNumber => rfl
  case pressure => exact (toInt_eq_asS32 _).trans (congrArg asS32 (u32At_eq d 14).symm)
  all_goals exact (toInt_eq_asS16 _).trans (congrArg asS16 (u16At_eq d _).symm)

/-- Settles O34: the success branch with the fields of the frame, and its classes those of the two indices. -/
theorem successfulParseDecodesEveryField : Obligations.SuccessfulParseDecodesEveryField := by
  intro s hsuccess
  rcases parseState_outcome s with ⟨e, hout, -⟩ | ⟨-, haddr, h⟩
  · exact absurd ((congrArg Prod.fst hout).symm.trans hsuccess) e.code_toNat_ne_zero
  · refine ⟨decodeFields s.frame, ?_, raw_decodeFields s.frame, rfl, haddr⟩
    have hdi : (le16 s.frame 24).toInt = rawAt s.frame .discomfortIndex := raw_decodeFields s.frame .discomfortIndex
    have hhs : (le16 s.frame 26).toInt = rawAt s.frame .heatStrokeIndex := raw_decodeFields s.frame .heatStrokeIndex
    rw [exec_eq, nextState, h, parseAccept_eq, hdi, hhs, classDi_code, classHs_code]
    rfl

/-! ### Acceptance -/

theorem parseState_err_eq_zero_iff (s : State) :
    (parseState s).err = 0 ↔ checkFrame s.rxOvf s.rxCapacity s.strict s.frame = none ∧
      (s.strict = true → receivedCrc s.frame = computedCrc s.frame) := by
  rcases parseState_cases s with ⟨e, hc, h⟩ | ⟨hc, hs, hne, h⟩ | ⟨hc, heq, h⟩ <;> rw [h]
  · exact iff_of_false e.code_ne_zero (by simp [hc])
  · exact iff_of_false (by simp [State.parseFail, ParseError.code]) fun h => hne (h.2 hs)
  · exact iff_of_true rfl ⟨hc, heq⟩

theorem requiredLength_le_iff {strict : Bool} {n : Nat} :
    requiredLength strict ≤ n ↔ 28 ≤ n ∧ (strict = true → 30 ≤ n) := by
  cases strict
  · simp [requiredLength]
  · simp only [requiredLength, if_true, true_implies]
    omega

/-- What an accepted frame satisfies, in the arithmetic of R105 to R110. -/
theorem checks_pass_iff (ovf strict : Bool) (cap : Nat) (d : List Byte) :
    (checkFrame ovf cap strict d = none ∧ (strict = true → receivedCrc d = computedCrc d)) ↔
      ovf = false ∧ u8At d 0 = 0x52 ∧ u8At d 1 = 0x42 ∧ u16At d 2 + 4 = d.length ∧ u16At d 5 = 0x5022 ∧
        28 ≤ d.length ∧
        (strict = true → 30 ≤ d.length ∧ u16At d (d.length - 2) = (crc16 (d.take (d.length - 2))).toNat) := by
  have h0 : u8At d 0 = 0x52 ↔ byteAt d 0 = header0 := BitVec.toNat_inj (y := header0)
  have h1 : u8At d 1 = 0x42 ↔ byteAt d 1 = header1 := BitVec.toNat_inj (y := header1)
  have h5 : u16At d 5 = 0x5022 ↔ le16 d 5 = knownAddress := by
    rw [u16At_eq]
    exact BitVec.toNat_inj (y := knownAddress)
  rw [checkFrame_none, h0, h1, h5, u16At_eq_crc16_iff, u16At_eq, requiredLength_le_iff]
  constructor
  · rintro ⟨⟨hovf, hb0, hb1, hlen, haddr, hn, hmin⟩, hsum⟩
    exact ⟨hovf, hb0, hb1, by omega, haddr, hn, fun hs => ⟨hmin hs, hsum hs⟩⟩
  · rintro ⟨hovf, hb0, hb1, hlen, haddr, hn, hstrict⟩
    exact ⟨⟨hovf, hb0, hb1, by omega, haddr, hn, fun hs => (hstrict hs).1⟩, fun hs => (hstrict hs).2⟩

/-- Settles O35: acceptance by the checks' arithmetic, and what every PARSE and every lenient one keeps. -/
theorem parseAcceptsExactlyTheValidFrames : Obligations.ParseAcceptsExactlyTheValidFrames := by
  refine fun s v => ⟨parseState s, exec_eq .parse s, ?_, parseState_rxbuf s, parseState_rxlen s, parseState_rxOvf s,
    parseState_crc_of_lenient s, fun hv => decode_eq_ok_iff.mpr hv⟩
  exact (parseState_err_eq_zero_iff s).trans (checks_pass_iff s.rxOvf s.strict s.rxCapacity s.frame)

/-! ### PARSE twice -/

/-- What a PARSE does to the state, once its checks 0 to 4 have answered `o` for the frame `d` (42_parser.md R112). -/
def parseUpdate (strict : Bool) (d : List Byte) (o : Option ParseError) (s : State) : State :=
  match o with
  | some e => s.markLegal.markParsed.parseFail e
  | none => s.markLegal.markParsed.parseChecked strict d

theorem parseState_eq_parseUpdate (s : State) :
    parseState s = parseUpdate s.strict s.frame (checkFrame s.rxOvf s.rxCapacity s.strict s.frame) s := rfl

theorem parseUpdate_parseUpdate (strict : Bool) (d : List Byte) (o : Option ParseError) (s : State) :
    parseUpdate strict d o (parseUpdate strict d o s) = parseUpdate strict d o s := by
  cases o with
  | some e => simp only [parseUpdate, parseFail_eq]
  | none =>
    simp only [parseUpdate, State.parseChecked]
    split_ifs <;> apply State.ext <;> simp [State.parseAccept, State.parseFail]

/-- A PARSE keeps all that it reads, so a second one finds the same frame and the same checks. -/
theorem parseState_parseState (s : State) : parseState (parseState s) = parseState s := by
  obtain ⟨hstrict, -, -, -, hcap, hbuf, hlen, hovf, -⟩ := parseState_frame s
  calc parseState (parseState s)
      = parseUpdate s.strict s.frame (checkFrame s.rxOvf s.rxCapacity s.strict s.frame) (parseState s) := by
        rw [parseState_eq_parseUpdate (parseState s), State.frame_congr hbuf hlen, hovf, hcap, State.strict, hstrict]
        rfl
    _ = parseState s := parseUpdate_parseUpdate ..

/-- Settles O40: the state a PARSE leaves is a fixed point of PARSE. -/
theorem parseTwiceIsParseOnce : Obligations.ParseTwiceIsParseOnce := fun s =>
  ⟨parseState s, exec_eq .parse s, (exec_eq .parse _).trans (congrArg _ (parseState_parseState s))⟩

/-! ### The bytes behind the fields -/

section Tail
variable {d d' : List Byte}

/-- Two frames of one length that agree below byte 28, where the fields end (30_encoding.md R84). -/
structure SameHead (d d' : List Byte) : Prop where
  length_eq : d'.length = d.length
  byteAt_eq : ∀ i < 28, byteAt d' i = byteAt d i

theorem sameHead_frame {s t : State} (hlen : t.rxlen = s.rxlen) (hbyte : ∀ i < 28, t.rxByte i = s.rxByte i) :
    SameHead s.frame t.frame where
  length_eq := by simp [hlen]
  byteAt_eq i hi := by
    by_cases h : i < s.rxlen
    · rw [State.byteAt_frame s h, State.byteAt_frame t (hlen ▸ h), hbyte i hi]
    · simp [byteAt, h, hlen]

theorem SameHead.le16_eq (h : SameHead d d') {i : Nat} (hi : i < 27) : le16 d' i = le16 d i := by
  rw [le16, le16, h.byteAt_eq i (by omega), h.byteAt_eq (i + 1) (by omega)]

theorem SameHead.le32_eq (h : SameHead d d') {i : Nat} (hi : i < 25) : le32 d' i = le32 d i := by
  rw [le32, le32, h.byteAt_eq i (by omega), h.byteAt_eq (i + 1) (by omega), h.byteAt_eq (i + 2) (by omega),
    h.byteAt_eq (i + 3) (by omega)]

theorem SameHead.checkFrame_eq (h : SameHead d d') (ovf strict : Bool) (cap : Nat) :
    checkFrame ovf cap strict d' = checkFrame ovf cap strict d := by
  simp only [checkFrame, checkOverflow, checkHeader, checkLength, checkAddress, checkTruncation, h.length_eq,
    h.byteAt_eq 0 (by decide), h.byteAt_eq 1 (by decide), h.le16_eq (i := 2) (by decide),
    h.le16_eq (i := 5) (by decide)]

theorem SameHead.decodeFields_eq (h : SameHead d d') : decodeFields d' = decodeFields d := by
  apply Measurement.ext
  case rxCmd | seq => exact h.byteAt_eq _ (by decide)
  case press => exact h.le32_eq (by decide)
  all_goals exact h.le16_eq (by decide)

theorem SameHead.parseAccept_eq (h : SameHead d d') (s : State) : s.parseAccept d' = s.parseAccept d := by
  rw [State.parseAccept, State.parseAccept, h.decodeFields_eq, h.le16_eq (by decide), h.le16_eq (by decide)]

/-- A lenient PARSE takes from the frame the answer of its checks and the fields. -/
theorem SameHead.parseUpdate_eq (h : SameHead d d') (o : Option ParseError) (s : State) :
    parseUpdate false d' o s = parseUpdate false d o s := by
  cases o with
  | some e => rfl
  | none => exact h.parseAccept_eq _

end Tail

theorem parseState_eq_parseUpdate_of_lenient {s : State} (h : s.strict = false) :
    parseState s = parseUpdate false s.frame (checkFrame s.rxOvf s.rxCapacity false s.frame) s := by
  rw [parseState_eq_parseUpdate, h]

/-- A lenient PARSE keeps the store, whatever it holds. -/
theorem parseUpdate_rxbuf (d : List Byte) (o : Option ParseError) (s : State) (b : Memory) :
    parseUpdate false d o { s with rxbuf := b } = { parseUpdate false d o s with rxbuf := b } := by
  cases o <;> rfl

/-- Settles O38: the checks and the fields lie below byte 28. -/
theorem lenientParseIgnoresTheTail : Obligations.LenientParseIgnoresTheTail := by
  intro s b hlenient hbyte
  have hhead : SameHead s.frame ({ s with rxbuf := b } : State).frame := sameHead_frame rfl hbyte
  refine ⟨parseState s, exec_eq .parse s, (exec_eq .parse _).trans (congrArg _ ?_)⟩
  refine (parseState_eq_parseUpdate_of_lenient (s := { s with rxbuf := b }) hlenient).trans ?_
  rw [hhead.checkFrame_eq, hhead.parseUpdate_eq, parseUpdate_rxbuf, parseState_eq_parseUpdate_of_lenient hlenient]

/-! ### The reference decoder -/

theorem getElem?_of_lt {d : List Byte} {i : Nat} (h : i < d.length) : d[i]? = some (byteAt d i) := by
  simp [byteAt, h]

/-- The reference decoder as one chain of checks: where it would read beyond the frame the spec's guard stands. -/
theorem referenceCode_eq (d : List Byte) :
    referenceCode d =
      if d.length < 2 then none
      else if u8At d 0 ≠ 0x52 ∨ u8At d 1 ≠ 0x42 then some 1
      else if d.length < 4 then none
      else if u16At d 2 ≠ d.length - 4 then some 2
      else if d.length < 7 then none
      else if u16At d 5 ≠ 0x5022 then some 3
      else if d.length < 28 then none
      else some 0 := by
  have hheader : byteAt d 0 ≠ 0x52 ∨ byteAt d 1 ≠ 0x42 ↔ u8At d 0 ≠ 0x52 ∨ u8At d 1 ≠ 0x42 :=
    or_congr (BitVec.toNat_ne_iff_ne (y := 0x52)).symm (BitVec.toNat_ne_iff_ne (y := 0x42)).symm
  by_cases h2 : d.length < 2
  · rw [if_pos h2, referenceCode, List.getElem?_eq_none (show d.length ≤ 1 by omega)]
    cases d[0]? <;> rfl
  rw [if_neg h2, referenceCode, getElem?_of_lt (i := 0) (by omega), getElem?_of_lt (i := 1) (by omega)]
  refine if_congr hheader rfl ?_
  by_cases h4 : d.length < 4
  · rw [if_pos h4, List.getElem?_eq_none (show d.length ≤ 3 by omega)]
    cases d[2]? <;> rfl
  rw [if_neg h4, getElem?_of_lt (i := 2) (by omega), getElem?_of_lt (i := 3) (by omega)]
  refine if_congr ?_ rfl ?_
  · show u16At d 2 + 4 ≠ d.length ↔ _
    omega
  by_cases h7 : d.length < 7
  · rw [if_pos h7, List.getElem?_eq_none (show d.length ≤ 6 by omega)]
    cases d[5]? <;> rfl
  rw [if_neg h7, getElem?_of_lt (i := 5) (by omega), getElem?_of_lt (i := 6) (by omega)]
  refine if_congr ?_ rfl ?_
  · show _ ↔ (byteAt d 5).toNat + 256 * (byteAt d 6).toNat ≠ 0x5022
    bv_omega
  by_cases h28 : d.length < 28
  · rw [if_pos h28, List.getElem?_eq_none (show d.length ≤ 27 by omega)]
    rfl
  · rw [if_neg h28, getElem?_of_lt (i := 27) (by omega)]
    rfl

/-- The outcome's code without overflow in lenient mode: the reference's, and Truncated where that has none. -/
theorem outcome_lenient (cap : Nat) (d : List Byte) : (outcome false false cap d).1 = (referenceCode d).getD 4 := by
  rw [referenceCode_eq]
  simp only [outcome, apply_ite Prod.fst, apply_ite (Option.getD · 4), Option.getD_none, Option.getD_some,
    Bool.false_and, Bool.false_eq_true, if_false]

theorem referenceCode_isSome {d : List Byte} (h : 28 ≤ d.length) : (referenceCode d).isSome = true := by
  rw [referenceCode_eq, if_neg (by omega), if_neg (by omega : ¬d.length < 4), if_neg (by omega : ¬d.length < 7),
    if_neg (by omega : ¬d.length < 28)]
  split_ifs <;> rfl

/-- Settles O39: the outcome's code is the reference's; byte 27 is the last the reference reads. -/
theorem lenientModeMatchesTheReference : Obligations.LenientModeMatchesTheReference := by
  intro s hlenient hovf
  obtain ⟨t, ht, herr, -⟩ := parseReportsTheFirstFailingCheck s
  refine ⟨t, ht, ?_, referenceCode_isSome⟩
  rw [herr, outcomeOf, hlenient, hovf, outcome_lenient]

end Sys2Proof.Machine

/-! PROOFS. The Classifier (43_classifier.md): the thresholds on exact values and on hundredths are the same, so the block's
codes are the document's; CLS_DI and CLS_HS; the order of the codes. -/

namespace Sys2Proof.Machine

open Claims

/-! ### Thresholds on exact values and on hundredths -/

section Thresholds
variable {raw : Int} {y : ℚ}

/-- `y` lies below the same integer thresholds as `raw` hundredths: all that either classifier asks (R120). -/
def SameThresholds (raw : Int) (y : ℚ) : Prop := ∀ T : Int, y < T ↔ raw < 100 * T

/-- Below a threshold `raw` is at least one hundredth below it, and above it as much above, which the distance of `y` does
not reach; on a threshold `y` is exact (R126). -/
theorem sameThresholds_of_near (hnear : |y - (raw : ℚ) / 100| < 1 / 100) (hexact : raw % 100 = 0 → y = (raw : ℚ) / 100) :
    SameThresholds raw y := by
  intro T
  obtain ⟨habove, hbelow⟩ := abs_lt.mp hnear
  rcases lt_trichotomy raw (100 * T) with hlt | heq | hgt
  · have hraw : (raw : ℚ) + 1 ≤ 100 * T := by exact_mod_cast hlt
    exact iff_of_true (by linarith) hlt
  · have hy : y = T := by
      rw [hexact (by omega), heq]
      push_cast
      ring
    exact iff_of_false hy.not_lt heq.not_lt
  · have hraw : 100 * (T : ℚ) + 1 ≤ raw := by exact_mod_cast hgt
    exact iff_of_false (by linarith) hgt.not_gt

theorem sameThresholds_div (raw : Int) : SameThresholds raw ((raw : ℚ) / 100) :=
  sameThresholds_of_near (by simp) fun _ => rfl

theorem classifyDi_eq_classDi (h : SameThresholds raw y) : classifyDi y = classDi raw :=
  if_congr (mod_cast h 70) rfl <| if_congr (mod_cast h 75) rfl <| if_congr (mod_cast h 80) rfl <|
    if_congr (mod_cast h 85) rfl rfl

theorem classifyHs_eq_classHs (h : SameThresholds raw y) : classifyHs y = classHs raw :=
  if_congr (mod_cast h 25) rfl <| if_congr (mod_cast h 28) rfl <| if_congr (mod_cast h 31) rfl rfl

end Thresholds

/-- Settles O43: such a quotient lies below the thresholds `raw` lies below. -/
theorem roundedQuotientsClassifyAlike : Obligations.RoundedQuotientsClassifyAlike := by
  intro raw y hnear hexact
  have h := sameThresholds_of_near hnear hexact
  exact ⟨classifyDi_eq_classDi h, classifyHs_eq_classHs h⟩

/-! ### The codes on their intervals -/

/-- R120's table read by code: the branch taken fixes both the code and the interval. -/
theorem diCode_eq_iff (raw : Int) :
    (diCode raw = 0 ↔ raw < 7000) ∧ (diCode raw = 1 ↔ 7000 ≤ raw ∧ raw < 7500) ∧
      (diCode raw = 2 ↔ 7500 ≤ raw ∧ raw < 8000) ∧ (diCode raw = 3 ↔ 8000 ≤ raw ∧ raw < 8500) ∧
      (diCode raw = 4 ↔ 8500 ≤ raw) := by
  unfold diCode
  split_ifs <;> simp <;> omega

/-- R122's table read by code. -/
theorem hsCode_eq_iff (raw : Int) :
    (hsCode raw = 0 ↔ raw < 2500) ∧ (hsCode raw = 1 ↔ 2500 ≤ raw ∧ raw < 2800) ∧
      (hsCode raw = 2 ↔ 2800 ≤ raw ∧ raw < 3100) ∧ (hsCode raw = 3 ↔ 3100 ≤ raw) := by
  unfold hsCode
  split_ifs <;> simp <;> omega

/-- Settles O41: the exact quotient lies below the thresholds `raw` lies below, and the codes are the table's. -/
theorem discomfortCodesMatchTheDocument : Obligations.DiscomfortCodesMatchTheDocument := by
  intro raw
  refine ⟨classDi_code raw, (classifyDi_eq_classDi (sameThresholds_div raw)).symm, ?_⟩
  rw [classDi_code]
  exact diCode_eq_iff raw

/-- Settles O42: the exact quotient lies below the thresholds `raw` lies below, and the codes are the table's. -/
theorem heatStrokeCodesMatchTheDocument : Obligations.HeatStrokeCodesMatchTheDocument := by
  intro raw
  refine ⟨classHs_code raw, (classifyHs_eq_classHs (sameThresholds_div raw)).symm, ?_⟩
  rw [classHs_code]
  exact hsCode_eq_iff raw

/-! ### The order of the codes -/

/-- How many of the thresholds `raw` has reached. -/
def thresholdsReached (thresholds : List Int) (raw : Int) : Nat := thresholds.countP (· ≤ raw)

theorem thresholdsReached_mono (thresholds : List Int) {raw raw' : Int} (h : raw ≤ raw') :
    thresholdsReached thresholds raw ≤ thresholdsReached thresholds raw' :=
  List.countP_mono_left fun _ _ hreached => decide_eq_true ((of_decide_eq_true hreached).trans h)

theorem diCode_toNat (raw : Int) : (diCode raw).toNat = thresholdsReached [7000, 7500, 8000, 8500] raw := by
  unfold diCode
  split_ifs <;> simp (disch := omega) [thresholdsReached, List.countP_cons, if_pos, if_neg]

theorem hsCode_toNat (raw : Int) : (hsCode raw).toNat = thresholdsReached [2500, 2800, 3100] raw := by
  unfold hsCode
  split_ifs <;> simp (disch := omega) [thresholdsReached, List.countP_cons, if_pos, if_neg]

theorem diCode_mono {raw raw' : Int} (h : raw ≤ raw') : diCode raw ≤ diCode raw' := by
  rw [BitVec.le_def, diCode_toNat, diCode_toNat]
  exact thresholdsReached_mono _ h

theorem hsCode_mono {raw raw' : Int} (h : raw ≤ raw') : hsCode raw ≤ hsCode raw' := by
  rw [BitVec.le_def, hsCode_toNat, hsCode_toNat]
  exact thresholdsReached_mono _ h

/-- Settles O46: a code counts the thresholds reached, and a larger index has reached no fewer. -/
theorem labelsAndCodeOrder : Obligations.LabelsAndCodeOrder := by
  refine ⟨⟨rfl, rfl, rfl, rfl, rfl, rfl⟩, ⟨rfl, rfl, rfl, rfl, rfl⟩, fun raw raw' h => ?_⟩
  simp only [classDi_code, classHs_code]
  exact ⟨diCode_mono h, hsCode_mono h⟩

/-! ### CLS_DI and CLS_HS -/

section Commands
variable {s : State} {c : BitVec 3}

theorem exec_clsDi (h : diCode (asS16 s.clsIn.toNat) = c) :
    exec .clsDi s = .next { s with diClass := c, illegal := false } := by
  rw [exec_eq, nextState, State.clsValue, classDi_code, toInt_eq_asS16, h]
  rfl

theorem exec_clsHs (h : hsCode (asS16 s.clsIn.toNat) = c) :
    exec .clsHs s = .next { s with hsClass := c, illegal := false } := by
  rw [exec_eq, nextState, State.clsValue, classHs_code, toInt_eq_asS16, h]
  rfl

end Commands

/-- Settles O44: the corner cases are values of the table. -/
theorem clsDiClassifiesTheOperand : Obligations.ClsDiClassifiesTheOperand := by
  refine fun s v => ⟨exec_clsDi rfl, fun h => exec_clsDi ?_, fun h => exec_clsDi ?_, fun h => exec_clsDi ?_,
    fun h => exec_clsDi ?_, fun h => decode_eq_ok_iff.mpr h⟩ <;> rw [h] <;> decide

/-- Settles O45: the corner cases are values of the table. -/
theorem clsHsClassifiesTheOperand : Obligations.ClsHsClassifiesTheOperand := by
  refine fun s v => ⟨exec_clsHs rfl, fun h => exec_clsHs ?_, fun h => exec_clsHs ?_, fun h => exec_clsHs ?_,
    fun h => exec_clsHs ?_, fun h => decode_eq_ok_iff.mpr h⟩ <;> rw [h] <;> decide

end Sys2Proof.Machine

/-! PROOFS. Control (44_control.md): one host operation as the function of R127, operand writes (R131), what every register
reads as (R132), and NOP (R130). -/

namespace Sys2Proof.Machine

/-! ### One host operation -/

/-- A read hands the host `read_value` of the block (R127). -/
theorem step_host_read (s : State) (rest : List Event) (off : Byte) :
    step { s with pending := .host (.read off) :: rest } = .next ((s.setPending rest).answer (readValue s off)) := by
  rw [← readValue_setPending s rest, step_read rfl]
  rfl

theorem step_host_write (s : State) (rest : List Event) (off : Byte) (v : Word) :
    step { s with pending := .host (.write off v) :: rest } = regWrite off v (s.setPending rest) := by
  rw [step_write rfl]
  rfl

/-- A write goes on from every state and leaves the host's side of the port alone. -/
theorem regWrite_keeps_port (off : Byte) (v : Word) (s : State) :
    ∃ t, regWrite off v s = .next t ∧ t.pending = s.pending ∧ t.reads = s.reads := by
  rcases regWrite_cases off v s with ⟨-, h⟩ | ⟨r, -, -, h⟩ | ⟨-, h⟩
  · rcases dispatch_cases v s with ⟨i, -, hd⟩ | ⟨e, -, hd⟩
    · exact ⟨_, h.trans hd, nextState_pending i s, nextState_reads i s⟩
    · exact ⟨_, h.trans hd, rfl, rfl⟩
  · exact ⟨_, h, writeOperand_pending r v s, by cases r <;> rfl⟩
  · exact ⟨s, h, rfl, rfl⟩

/-- Settles O6, one kind of event at a time. -/
theorem onlyReadsReturnValues : Obligations.OnlyReadsReturnValues := by
  intro s e rest
  match e with
  | .host (.read off) => exact ⟨_, step_host_read s rest off, rfl, rfl⟩
  | .host (.write off v) =>
    obtain ⟨t, h, hpending, hreads⟩ := regWrite_keeps_port off v (s.setPending rest)
    exact ⟨t, (step_host_write s rest off v).trans h, hpending, hreads.trans (List.append_nil _).symm⟩
  | .reset => exact ⟨_, step_reset rfl, rfl, (List.append_nil _).symm⟩

/-- Settles O3: each clause is the port's rule for its kind of offset; that nothing is refused is O6. -/
theorem stepIsTheSpecifiedFunction : Obligations.StepIsTheSpecifiedFunction := by
  refine ⟨fun s rest off v => ⟨step_host_read s rest off, ?_⟩, fun s t hnil hstep => ?_, fun s hsome => ?_⟩
  · rw [step_host_write]
    refine ⟨fun hno => ?_, ?_, ?_, ?_⟩
    · have hnone (r : RegName) : r.offset ≠ off :=
        hno.elim (fun hmisaligned hr => hmisaligned (hr ▸ r.offset_aligned)) (fun hunmapped => hunmapped r)
      exact regWrite_ignored (fun r hr => absurd hr.symm (hnone r)) v _
    · rintro rfl
      exact regWrite_cmd v _
    · rintro r rfl hrw
      exact regWrite_rw hrw v _
    · rintro r rfl hro
      exact regWrite_ro hro v _
  · exact Host.Outcome.next.inj (hstep.symm.trans (step_nil hnil))
  · obtain ⟨e, rest, hpending⟩ := List.exists_cons_of_ne_nil hsome
    obtain ⟨t, ht, -, -⟩ := onlyReadsReturnValues s e rest
    rw [← hpending] at ht
    exact ⟨t, ht⟩

/-- Settles O4: the port hands the word to `dispatch`, which runs what it decodes to. -/
theorem stepRunsTheDecodedCommand : Obligations.StepRunsTheDecodedCommand := by
  intro s rest v i hpending hv
  rw [step_write hpending, regWrite_cmd, dispatch_ok hv, ← exec_eq]
  rfl

/-- Settles O47, by the command's one equation and the opcode map. -/
theorem nopOnlyClearsIllegal : Obligations.NopOnlyClearsIllegal :=
  fun s _ => ⟨exec_eq .nop s, fun hv => decode_eq_ok_iff.mpr hv⟩

/-! ### What the fields of registers read as -/

section ReadValues
variable {s : State} (r : RegName)

/-- A sign-extended field reads as its signed value (R132). -/
theorem readValue_toInt {h : Half} (hread : readReg s r = h.signExtend 32) : (readValue s r.offset).toInt = h.toInt := by
  rw [readValue_offset, hread, BitVec.toInt_signExtend_of_le (by decide)]

/-- A zero-extended field reads as its unsigned value (R132). -/
theorem readValue_toNat {w : Nat} {x : BitVec w} (hread : readReg s r = x.setWidth 32) (hw : w ≤ 32 := by decide) :
    (readValue s r.offset).toNat = x.toNat := by
  rw [readValue_offset, hread, BitVec.toNat_setWidth_of_le hw]

/-- A count reads modulo 2^32 (log 5). -/
theorem readValue_toNat_ofNat {n : Nat} (hread : readReg s r = BitVec.ofNat 32 n) :
    (readValue s r.offset).toNat = n % 2 ^ 32 := by
  rw [readValue_offset, hread, BitVec.toNat_ofNat]

end ReadValues

/-! ### Operand writes -/

theorem RegName.width_le (r : RegName) : r.width ≤ 32 := by cases r <;> decide

/-- The mask of the defined bits is one less than a power of two (10_state.md R20). -/
theorem RegName.definedBits_succ (r : RegName) : r.definedBits.toNat + 1 = 2 ^ r.width := by
  cases r <;> rfl

/-- An RW register shows the low bits of what was written, as many as it defines (R131). -/
theorem readReg_writeOperand {r : RegName} (hrw : r.access = .rw) (v : Word) (s : State) :
    readReg (writeOperand r v s) r = (v.setWidth r.width).setWidth 32 := by
  cases r <;> cases hrw
  case ctrl => exact congrArg (BitVec.setWidth 32) BitVec.setWidth_one.symm
  all_goals exact congrArg (BitVec.setWidth 32) (BitVec.setWidth_eq_extractLsb' (by decide)).symm

/-- Settles O10: the four registers one by one, and the mask of each is the power of two its width gives. -/
theorem operandWritesStoreTheDefinedBits : Obligations.OperandWritesStoreTheDefinedBits := by
  intro s rest v
  have hstore {r : RegName} (hrw : r.access = .rw) :
      step { s with pending := .host (.write r.offset v) :: rest } = .next (writeOperand r v (s.setPending rest)) :=
    (step_host_write s rest r.offset v).trans (regWrite_rw hrw v _)
  refine ⟨hstore (r := .ctrl) rfl, hstore (r := .dataIn) rfl, hstore (r := .addrIn) rfl, hstore (r := .clsIn) rfl,
    fun r t hrw hstep => ?_⟩
  obtain rfl := Host.Outcome.next.inj ((hstore hrw).symm.trans hstep)
  rw [readValue_toNat r (readReg_writeOperand hrw v _) r.width_le, BitVec.toNat_setWidth, r.definedBits_succ]

/-! ### STATUS and the transmit buffer -/

/-- A bit string in front of another is its number at the weight of the other's width. -/
theorem toNat_append_eq_add {m n : Nat} (x : BitVec m) (y : BitVec n) : (x ++ y).toNat = 2 ^ n * x.toNat + y.toNat := by
  rw [BitVec.toNat_append, ← Nat.shiftLeft_add_eq_or_of_lt y.isLt, Nat.shiftLeft_eq, Nat.mul_comm]

/-- STATUS as a number: its fields at their weights (10_state.md R22). -/
theorem statusWord_toNat (s : State) : s.statusWord.toNat =
    s.err.toNat + 8 * s.parsed.toNat + 16 * s.measValid.toNat + 32 * s.txValid.toNat + 64 * s.illegal.toNat +
      128 * s.rxOvf.toNat := by
  simp only [State.statusWord, toNat_append_eq_add, BitVec.toNat_ofBool, BitVec.ofNat_eq_ofNat, BitVec.toNat_zero]
  omega

/-- TXB0 to TXB8 stand four apart from 0x80 (10_state.md R20). -/
theorem RegName.txbytes_offset (i : Fin 9) : (RegName.txbytes[i.val]'i.isLt).offset = BitVec.ofNat 8 (0x80 + 4 * i.val) := by
  decide +revert

theorem readValue_txbyte (s : State) (i : Fin 9) :
    (readValue s (BitVec.ofNat 8 (0x80 + 4 * i.val))).toNat = s.txbuf[i].toNat := by
  rw [← RegName.txbytes_offset, readValue_toNat _ (readReg_txbytes s i.val i.isLt)]
  simp [byteAt]

/-- Settles O11, register by register: the kind of extension `readReg` gives its field is the number it reads as. -/
theorem readValueExtendsEveryField : Obligations.ReadValueExtendsEveryField := by
  intro s
  exact ⟨readValue_toInt .temp rfl, readValue_toInt .hum rfl, readValue_toInt .light rfl, readValue_offset s .press,
    readValue_toInt .noise rfl, readValue_toInt .etvoc rfl, readValue_toInt .eco2 rfl, readValue_toInt .di rfl,
    readValue_toInt .hs rfl, (readValue_toNat .ctrl rfl).trans (BitVec.toNat_ofBool _), readValue_toNat .dataIn rfl,
    readValue_toNat .addrIn rfl, readValue_toNat .clsIn rfl, readValue_toNat .crc rfl, readValue_toNat_ofNat .rxlen rfl,
    readValue_toNat .txlen rfl, readValue_offset s .diag0, readValue_offset s .diag1, readValue_toNat .rxCmd rfl,
    readValue_toNat .rxAddr rfl, readValue_toNat .seq rfl, readValue_toNat .diClass rfl, readValue_toNat .hsClass rfl,
    readValue_toNat_ofNat .rxcap rfl, statusWord_toNat s, readValue_txbyte s, readValue_offset s .cmd,
    fun off hoff => readValue_unmapped (RegName.offset_ne_of_unmapped hoff), fun off rest => step_host_read s rest off⟩

end Sys2Proof.Machine

/-! PROOFS. Exceptions (60_exceptions.md): the block never stops. -/

namespace Sys2Proof.Machine

/-- Whatever is pending, a step goes on: a read, a command, an illegal opcode, an operand write, an ignored write, a reset
and (log 2) nothing at all each leave a next state (R127, R133). -/
theorem exists_step_eq_next (s : State) : ∃ t, step s = .next t := by
  obtain ⟨t, hstep, -⟩ := exists_step (s := s) (P := fun _ => True) (idle := fun _ => trivial)
    (read := fun _ _ => trivial) (command := fun _ _ => trivial) (illegal := fun _ => trivial)
    (operand := fun _ _ _ _ => trivial) (ignored := fun _ => trivial) (reset := fun _ _ => trivial)
  exact ⟨t, hstep⟩

/-- Settles O58, by induction on the number of steps: the first leaves a next state, and the rest run from there. Steps
beyond the last event go on by log 2, the model's own choice. -/
theorem theBlockNeverStops : Obligations.TheBlockNeverStops := by
  intro n
  induction n with
  | zero => exact fun s => ⟨s, rfl⟩
  | succ n ih =>
    intro s
    obtain ⟨t, hstep⟩ := exists_step_eq_next s
    rw [run_succ_of_step hstep]
    exact ih t

end Sys2Proof.Machine

/-! PROOFS. Reset (70_reset_and_hazards.md): what the window reads after it, what the reset event restores, and that the
invariant holds from there. -/

namespace Sys2Proof.Machine

/-! ### The window after reset -/

/-- STATUS is zero after reset: no flag is set and ERR is 0 (70_reset_and_hazards.md R146). -/
theorem statusWord_resetWith (cap : Nat) : (State.resetWith cap).statusWord = 0 :=
  BitVec.eq_of_toNat_eq (statusWord_toNat _)

/-- What each register reads after reset (70_reset_and_hazards.md R148). -/
theorem readReg_resetWith (cap : Nat) (r : RegName) :
    readReg (State.resetWith cap) r =
      if r = .crc then 0x0000FFFF else if r = .diClass ∨ r = .hsClass then 0x00000007
      else if r = .rxcap then BitVec.ofNat 32 cap else 0 := by
  cases r
  case status => exact statusWord_resetWith cap
  all_goals rfl

/-- Two registers of one offset are the same register (10_state.md R20). -/
theorem RegName.offset_inj {r r' : RegName} : r.offset = r'.offset ↔ r = r' := by
  rw [← regAt_eq_some, regAt_offset, Option.some_inj]

/-- What each offset reads after reset: its register's value, and 0 where there is none. -/
theorem readValue_resetWith (cap : Nat) (off : Byte) :
    readValue (State.resetWith cap) off =
      if off = RegName.crc.offset then 0x0000FFFF
      else if off = RegName.diClass.offset ∨ off = RegName.hsClass.offset then 0x00000007
      else if off = RegName.rxcap.offset then BitVec.ofNat 32 cap else 0 := by
  by_cases hmapped : ∃ r : RegName, r.offset = off
  · obtain ⟨r, rfl⟩ := hmapped
    simp only [readValue_offset, readReg_resetWith, RegName.offset_inj]
  · have hno (r : RegName) : r.offset ≠ off := fun hr => hmapped ⟨r, hr⟩
    simp only [readValue_unmapped hno, (hno _).symm, or_self, if_false]

/-- Settles O2: the window's reset values by `readValue_resetWith`; and reset leaves the start value of R91 in CRC, so a
fold from there is the checksum by definition. -/
theorem windowAfterReset : Obligations.WindowAfterReset :=
  fun cap off => ⟨readValue_resetWith cap off, fun _ => rfl⟩

/-! ### The reset event -/

/-- Settles O1: the step applies the reset, which leaves each of the pieces its value of R146. -/
theorem resetEventRestoresEveryRegister : Obligations.ResetEventRestoresEveryRegister := by
  intro s rest
  refine ⟨(s.setPending rest).applyReset, step_reset rfl, ?_⟩
  and_intros <;> rfl

/-! ### The invariant -/

/-- Settles O59, part by part: the capacity is admissible by hypothesis, the buffer is empty, and no flag is set that
would claim anything of the registers. -/
theorem resetMeetsTheInvariant : Obligations.ResetMeetsTheInvariant := by
  intro cap hcap
  constructor
  case capacity => exact decide_eq_true hcap
  case rxlen_le => exact Nat.zero_le cap
  case rxbuf_wf => exact List.Pairwise.nil
  case rxbuf_inside => exact List.forall_mem_nil _
  case rxbuf_pushed => exact fun i hi => absurd hi (Nat.not_lt_zero i)
  case unparsed => exact fun _ => ⟨rfl, rfl, rfl, rfl⟩
  case err_legal => exact (by decide : (0 : BitVec 3) ≠ 7)
  case txlen_legal | tx_zero | meas_zero => intros; rfl
  case di_legal | hs_legal => rfl
  case ovf_full | tx_built | accepted | meas_address | meas_classified => exact (absurd · Bool.false_ne_true)

end Sys2Proof.Machine
